-- ==== Sys2Proof/Word.lean ====
section
/-! DEFINITION. The word types of md4_core. All values are unsigned and of a stated width (00_scope.md R9). -/

namespace Sys2Proof

/-- A byte: the unit of the message, of `BLK` and of `DG` (20_memory.md R60). -/
abbrev Byte := BitVec 8

/-- A word of the Digest State and of the Message Schedule (00_scope.md R6, R9). -/
abbrev Word := BitVec 32

/-- The width of the message length counter `bitlen` (10_state.md R27). -/
abbrev Word64 := BitVec 64

end Sys2Proof
end

