-- ==== Sys2Proof/Machine/Primitives.lean ====
section
/-! DEFINITION. The arithmetic, byte and word primitives (00_scope.md R10, R11). -/

namespace Sys2Proof.Machine

/-- `add32(a, b)`: addition mod 2^32 (00_scope.md R10). -/
def add32 (a b : Word) : Word := a + b

/-- `add32(a, b, c, d)`: four operands, reduced mod 2^32 (00_scope.md R10). -/
def add32x4 (a b c d : Word) : Word := a + b + c + d

/-- `add64(a, b)`: addition mod 2^64 (00_scope.md R10). -/
def add64 (a b : Word64) : Word64 := a + b

/-- `not32(a)`: the bitwise complement (00_scope.md R10). -/
def not32 (a : Word) : Word := ~~~a

/-- `rotl32(x, s)`: the circular left rotation, for `1 ≤ s ≤ 31` (00_scope.md R10). Outside that range the spec leaves it
undefined and no rule evaluates it (93_implementation_defined.md U6; log 17). -/
def rotl32 (x : Word) (s : Nat) : Word := (x <<< s) ||| (x >>> (32 - s))

/-- `byte(v, j) = v[8j+7 : 8j]` (00_scope.md R11). -/
def byteOf {n : Nat} (v : BitVec n) (j : Nat) : Byte := v.extractLsb' (8 * j) 8

/-- `LE32(b0, b1, b2, b3)`: four bytes to a word, `b0` least significant (00_scope.md R11). -/
def le32 (b0 b1 b2 b3 : Byte) : Word :=
  b0.setWidth 32 ||| (b1.setWidth 32 <<< 8) ||| (b2.setWidth 32 <<< 16) ||| (b3.setWidth 32 <<< 24)

/-- `LE64bytes(v)`: a 64-bit value to 8 bytes, least significant first (00_scope.md R11). -/
def le64bytes (v : Word64) : List Byte := (List.range 8).map (byteOf v)

/-- `zeros(z)`: the sequence of `z` bytes 0x00 (00_scope.md R11). -/
def zeros (z : Nat) : List Byte := List.replicate z 0

end Sys2Proof.Machine
end

