-- ==== Sys2Proof/Config.lean ====
section
/-! DEFINITION. The constants of the design (00_scope.md R6, 10_state.md R37) that the state record needs, and the two
parameters the spec leaves open, on which no rule depends (92_eei_decisions.md D21, D7). -/

namespace Sys2Proof.Config

/-- The initial Digest State (the IV), word A (00_scope.md R6). -/
def ivA : Word := 0x67452301

/-- The IV, word B (00_scope.md R6). -/
def ivB : Word := 0xefcdab89

/-- The IV, word C (00_scope.md R6). -/
def ivC : Word := 0x98badcfe

/-- The IV, word D (00_scope.md R6). -/
def ivD : Word := 0x10325476

/-- Bytes of a Block, the size of the space `BLK` (00_scope.md R6, 20_memory.md R60). -/
def blockBytes : Nat := 64

/-- Bytes of the digest, the size of the space `DG` (00_scope.md R6, 20_memory.md R60). -/
def digestBytes : Nat := 16

/-- OPEN parameter `UOP_CYCLES`: clock cycles per operation. It has no value and no rule reads it
(70_reset_and_hazards.md R290, decision D21; log 10). -/
opaque uopCycles : Nat

/-- The ways an implementation may build its `rst` input, which the spec leaves open. -/
inductive RstStyle where
  | synchronous
  | asynchronous
  deriving DecidableEq, Repr, Inhabited

/-- OPEN parameter `RST_STYLE`. No rule reads it (70_reset_and_hazards.md R270, decision D7; log 10). -/
opaque rstStyle : RstStyle

end Sys2Proof.Config
end

