-- ==== Sys2Proof/Syntax.lean ====
section
/-! DEFINITION. The operations of md4_core, one constructor for each row of spec/opcode_table.json: five host commands
(30_encoding.md R81) and fifty-four micro-operations (30_encoding.md R84). -/

namespace Sys2Proof

/-- An operation: a command the host sends or a micro-operation the sequencer performs (00_scope.md, Glossary). -/
inductive Instr where
  /-- `INIT`: start a new message, R216. -/
  | init
  /-- `DATA`: append the byte `b` to the message, R217. -/
  | data (b : Byte)
  /-- `FINAL`: end the message and produce the digest, R218. -/
  | final
  /-- `RDD`: read digest byte `i`, R219. -/
  | rdd (i : Nat)
  /-- `RDH`: read hexadecimal character `i` of the digest, upper case where `u`, R220. -/
  | rdh (i : Nat) (u : Bool)
  /-- `PAD.MARK`: append the marker byte, R102. -/
  | padMark
  /-- `PAD.ZERO`: append one zero byte, R103. -/
  | padZero
  /-- `PAD.LEN`: append one byte of the length field, R104. -/
  | padLen
  /-- `STEP 0` (`R1.0`), R140. -/
  | step0
  /-- `STEP 1` (`R1.1`), R141. -/
  | step1
  /-- `STEP 2` (`R1.2`), R142. -/
  | step2
  /-- `STEP 3` (`R1.3`), R143. -/
  | step3
  /-- `STEP 4` (`R1.4`), R144. -/
  | step4
  /-- `STEP 5` (`R1.5`), R145. -/
  | step5
  /-- `STEP 6` (`R1.6`), R146. -/
  | step6
  /-- `STEP 7` (`R1.7`), R147. -/
  | step7
  /-- `STEP 8` (`R1.8`), R148. -/
  | step8
  /-- `STEP 9` (`R1.9`), R149. -/
  | step9
  /-- `STEP 10` (`R1.10`), R150. -/
  | step10
  /-- `STEP 11` (`R1.11`), R151. -/
  | step11
  /-- `STEP 12` (`R1.12`), R152. -/
  | step12
  /-- `STEP 13` (`R1.13`), R153. -/
  | step13
  /-- `STEP 14` (`R1.14`), R154. -/
  | step14
  /-- `STEP 15` (`R1.15`), R155. -/
  | step15
  /-- `STEP 16` (`R2.0`), R156. -/
  | step16
  /-- `STEP 17` (`R2.1`), R157. -/
  | step17
  /-- `STEP 18` (`R2.2`), R158. -/
  | step18
  /-- `STEP 19` (`R2.3`), R159. -/
  | step19
  /-- `STEP 20` (`R2.4`), R160. -/
  | step20
  /-- `STEP 21` (`R2.5`), R161. -/
  | step21
  /-- `STEP 22` (`R2.6`), R162. -/
  | step22
  /-- `STEP 23` (`R2.7`), R163. -/
  | step23
  /-- `STEP 24` (`R2.8`), R164. -/
  | step24
  /-- `STEP 25` (`R2.9`), R165. -/
  | step25
  /-- `STEP 26` (`R2.10`), R166. -/
  | step26
  /-- `STEP 27` (`R2.11`), R167. -/
  | step27
  /-- `STEP 28` (`R2.12`), R168. -/
  | step28
  /-- `STEP 29` (`R2.13`), R169. -/
  | step29
  /-- `STEP 30` (`R2.14`), R170. -/
  | step30
  /-- `STEP 31` (`R2.15`), R171. -/
  | step31
  /-- `STEP 32` (`R3.0`), R172. -/
  | step32
  /-- `STEP 33` (`R3.1`), R173. -/
  | step33
  /-- `STEP 34` (`R3.2`), R174. -/
  | step34
  /-- `STEP 35` (`R3.3`), R175. -/
  | step35
  /-- `STEP 36` (`R3.4`), R176. -/
  | step36
  /-- `STEP 37` (`R3.5`), R177. -/
  | step37
  /-- `STEP 38` (`R3.6`), R178. -/
  | step38
  /-- `STEP 39` (`R3.7`), R179. -/
  | step39
  /-- `STEP 40` (`R3.8`), R180. -/
  | step40
  /-- `STEP 41` (`R3.9`), R181. -/
  | step41
  /-- `STEP 42` (`R3.10`), R182. -/
  | step42
  /-- `STEP 43` (`R3.11`), R183. -/
  | step43
  /-- `STEP 44` (`R3.12`), R184. -/
  | step44
  /-- `STEP 45` (`R3.13`), R185. -/
  | step45
  /-- `STEP 46` (`R3.14`), R186. -/
  | step46
  /-- `STEP 47` (`R3.15`), R187. -/
  | step47
  /-- `ENG.COMBINE`: add the saved state, release the buffer, R188. -/
  | engCombine
  /-- `ENG.SAVE`: save the Digest State and start the steps, R131. -/
  | engSave
  /-- `SER.LATCH`: serialise the final state into the digest register, R200. -/
  | serLatch
  deriving DecidableEq, Repr

/-- An encoded operation. The two formats travel on different channels: a `CMD` word on the command port, a `UOP` code as
the value of `NextUop` (30_encoding.md R80). -/
inductive Code where
  /-- A 10-bit command word, `op` in bits 9:8 and `arg` in bits 7:0. -/
  | cmd (w : BitVec 10)
  /-- An 8-bit micro-operation code, `unit` in bits 7:6 and `idx` in bits 5:0. -/
  | uop (c : BitVec 8)
  deriving DecidableEq, Repr

end Sys2Proof
end

