-- ==== Sys2Proof/WellFormed.lean ====
section
/-! DEFINITION. Which terms of `Instr` stand for an operation: the two index operands stay in the range their fields of the
command word can hold (30_encoding.md R81). -/

namespace Sys2Proof

/-- `RDD` takes an index 0..15 into `DG`, `RDH` an index 0..31 into `HEX` (30_encoding.md R81); every other term stands
for an operation whatever its operands are. -/
def Instr.wf : Instr → Bool
  | .init => true
  | .data _ => true
  | .final => true
  | .rdd i => decide (i < 16)
  | .rdh i _ => decide (i < 32)
  | .padMark => true
  | .padZero => true
  | .padLen => true
  | .step0 => true
  | .step1 => true
  | .step2 => true
  | .step3 => true
  | .step4 => true
  | .step5 => true
  | .step6 => true
  | .step7 => true
  | .step8 => true
  | .step9 => true
  | .step10 => true
  | .step11 => true
  | .step12 => true
  | .step13 => true
  | .step14 => true
  | .step15 => true
  | .step16 => true
  | .step17 => true
  | .step18 => true
  | .step19 => true
  | .step20 => true
  | .step21 => true
  | .step22 => true
  | .step23 => true
  | .step24 => true
  | .step25 => true
  | .step26 => true
  | .step27 => true
  | .step28 => true
  | .step29 => true
  | .step30 => true
  | .step31 => true
  | .step32 => true
  | .step33 => true
  | .step34 => true
  | .step35 => true
  | .step36 => true
  | .step37 => true
  | .step38 => true
  | .step39 => true
  | .step40 => true
  | .step41 => true
  | .step42 => true
  | .step43 => true
  | .step44 => true
  | .step45 => true
  | .step46 => true
  | .step47 => true
  | .engCombine => true
  | .engSave => true
  | .serLatch => true

/-- `i` is well-formed. -/
abbrev WellFormed (i : Instr) : Prop := i.wf = true

end Sys2Proof
end

