-- ==== Sys2Proof/Decode.lean ====
section
/-! DEFINITION. The command decoder (30_encoding.md R82), the micro-operation codes (30_encoding.md R84), and the encoder,
written from the same tables. Both decoders are total and reject by name. -/

namespace Sys2Proof

/-- Why a code stands for no operation. -/
inductive DecodeError where
  /-- 0x001..0x0FF: `INIT` with a non-zero `arg` (30_encoding.md R83). -/
  | reservedInit
  /-- 0x201..0x2FF: `FINAL` with a non-zero `arg` (30_encoding.md R83). -/
  | reservedFinal
  /-- 0x310..0x33F: READ with `arg[7:6] = 00` and `arg[5:4]` not 00 (30_encoding.md R83). -/
  | reservedDigestIndex
  /-- 0x380..0x3FF: READ with `arg[7] = 1` (30_encoding.md R83). -/
  | reservedRead
  /-- A UOP code not assigned to an operation (30_encoding.md R84, 93_implementation_defined.md U5). -/
  | unassignedUop
  deriving DecidableEq, Repr

/-- The field `op = w[9:8]` of a command word (30_encoding.md R80). -/
def cmdOp (w : BitVec 10) : BitVec 2 := w.extractLsb' 8 2

/-- The field `arg = w[7:0]` of a command word (30_encoding.md R80). -/
def cmdArg (w : BitVec 10) : BitVec 8 := w.extractLsb' 0 8

/-- `Decode(w)` for a word of the command port (30_encoding.md R82). -/
def decodeCmd (w : BitVec 10) : Except DecodeError Instr :=
  let a := cmdArg w
  if cmdOp w = 0 then (if a = 0 then .ok .init else .error .reservedInit)
  else if cmdOp w = 1 then .ok (.data a)
  else if cmdOp w = 2 then (if a = 0 then .ok .final else .error .reservedFinal)
  else if a.getLsbD 7 then .error .reservedRead
  else if a.getLsbD 6 then .ok (.rdh (a.extractLsb' 0 5).toNat (a.getLsbD 5))
  else if a.extractLsb' 4 2 ≠ 0 then .error .reservedDigestIndex
  else .ok (.rdd (a.extractLsb' 0 4).toNat)

/-- The codes of md4_padder (30_encoding.md R84). -/
def padderCodes : List (BitVec 8 × Instr) :=
  [(0x00, .padMark),
   (0x01, .padZero),
   (0x02, .padLen)]

/-- The codes of the steps of round 1 (30_encoding.md R84). -/
def round1Codes : List (BitVec 8 × Instr) :=
  [(0x80, .step0),
   (0x81, .step1),
   (0x82, .step2),
   (0x83, .step3),
   (0x84, .step4),
   (0x85, .step5),
   (0x86, .step6),
   (0x87, .step7),
   (0x88, .step8),
   (0x89, .step9),
   (0x8A, .step10),
   (0x8B, .step11),
   (0x8C, .step12),
   (0x8D, .step13),
   (0x8E, .step14),
   (0x8F, .step15)]

/-- The codes of the steps of round 2 (30_encoding.md R84). -/
def round2Codes : List (BitVec 8 × Instr) :=
  [(0x90, .step16),
   (0x91, .step17),
   (0x92, .step18),
   (0x93, .step19),
   (0x94, .step20),
   (0x95, .step21),
   (0x96, .step22),
   (0x97, .step23),
   (0x98, .step24),
   (0x99, .step25),
   (0x9A, .step26),
   (0x9B, .step27),
   (0x9C, .step28),
   (0x9D, .step29),
   (0x9E, .step30),
   (0x9F, .step31)]

/-- The codes of the steps of round 3 (30_encoding.md R84). -/
def round3Codes : List (BitVec 8 × Instr) :=
  [(0xA0, .step32),
   (0xA1, .step33),
   (0xA2, .step34),
   (0xA3, .step35),
   (0xA4, .step36),
   (0xA5, .step37),
   (0xA6, .step38),
   (0xA7, .step39),
   (0xA8, .step40),
   (0xA9, .step41),
   (0xAA, .step42),
   (0xAB, .step43),
   (0xAC, .step44),
   (0xAD, .step45),
   (0xAE, .step46),
   (0xAF, .step47)]

/-- The codes of `ENG.COMBINE`, `ENG.SAVE` and `SER.LATCH` (30_encoding.md R84). -/
def boundaryCodes : List (BitVec 8 × Instr) :=
  [(0xB0, .engCombine),
   (0xBF, .engSave),
   (0xC0, .serLatch)]

/-- The fifty-four assigned micro-operation codes (30_encoding.md R84). -/
def uopTable : List (BitVec 8 × Instr) :=
  padderCodes ++ round1Codes ++ round2Codes ++ round3Codes ++ boundaryCodes

/-- The micro-operation a UOP code stands for (30_encoding.md R84: every code is matched with mask 0xFF). -/
def decodeUop (c : BitVec 8) : Except DecodeError Instr :=
  match uopTable.find? (fun row => row.1 == c) with
  | some row => .ok row.2
  | none => .error .unassignedUop

/-- The operation an encoded operation stands for, or the name of what is wrong with it. -/
def decode : Code → Except DecodeError Instr
  | .cmd w => decodeCmd w
  | .uop c => decodeUop c

/-- A command word: `op << 8 | arg` (30_encoding.md R81). -/
def cmdWord (op : BitVec 2) (arg : BitVec 8) : BitVec 10 := op ++ arg

/-- The encoding of an operation (30_encoding.md R81, R84). -/
def encode : Instr → Code
  | .init => .cmd (cmdWord 0 0)
  | .data b => .cmd (cmdWord 1 b)
  | .final => .cmd (cmdWord 2 0)
  | .rdd i => .cmd (cmdWord 3 (0#4 ++ BitVec.ofNat 4 i))
  | .rdh i u => .cmd (cmdWord 3 (1#2 ++ BitVec.ofBool u ++ BitVec.ofNat 5 i))
  | .padMark => .uop 0x00
  | .padZero => .uop 0x01
  | .padLen => .uop 0x02
  | .step0 => .uop 0x80
  | .step1 => .uop 0x81
  | .step2 => .uop 0x82
  | .step3 => .uop 0x83
  | .step4 => .uop 0x84
  | .step5 => .uop 0x85
  | .step6 => .uop 0x86
  | .step7 => .uop 0x87
  | .step8 => .uop 0x88
  | .step9 => .uop 0x89
  | .step10 => .uop 0x8A
  | .step11 => .uop 0x8B
  | .step12 => .uop 0x8C
  | .step13 => .uop 0x8D
  | .step14 => .uop 0x8E
  | .step15 => .uop 0x8F
  | .step16 => .uop 0x90
  | .step17 => .uop 0x91
  | .step18 => .uop 0x92
  | .step19 => .uop 0x93
  | .step20 => .uop 0x94
  | .step21 => .uop 0x95
  | .step22 => .uop 0x96
  | .step23 => .uop 0x97
  | .step24 => .uop 0x98
  | .step25 => .uop 0x99
  | .step26 => .uop 0x9A
  | .step27 => .uop 0x9B
  | .step28 => .uop 0x9C
  | .step29 => .uop 0x9D
  | .step30 => .uop 0x9E
  | .step31 => .uop 0x9F
  | .step32 => .uop 0xA0
  | .step33 => .uop 0xA1
  | .step34 => .uop 0xA2
  | .step35 => .uop 0xA3
  | .step36 => .uop 0xA4
  | .step37 => .uop 0xA5
  | .step38 => .uop 0xA6
  | .step39 => .uop 0xA7
  | .step40 => .uop 0xA8
  | .step41 => .uop 0xA9
  | .step42 => .uop 0xAA
  | .step43 => .uop 0xAB
  | .step44 => .uop 0xAC
  | .step45 => .uop 0xAD
  | .step46 => .uop 0xAE
  | .step47 => .uop 0xAF
  | .engCombine => .uop 0xB0
  | .engSave => .uop 0xBF
  | .serLatch => .uop 0xC0

/-- A row of the opcode table: the format's channel and width, and the fixed bits as a match under a mask, both numbered
with bit 0 the least significant bit (30_encoding.md R81, R84). -/
inductive OpcodeRow where
  | cmd (pattern mask : BitVec 10)
  | uop (pattern mask : BitVec 8)
  deriving DecidableEq, Repr

/-- The (match, mask) pair of each operation (30_encoding.md R81, R84). -/
def opcodeRow : Instr → OpcodeRow
  | .init => .cmd 0x000 0x3FF
  | .data _ => .cmd 0x100 0x300
  | .final => .cmd 0x200 0x3FF
  | .rdd _ => .cmd 0x300 0x3F0
  | .rdh _ _ => .cmd 0x340 0x3C0
  | .padMark => .uop 0x00 0xFF
  | .padZero => .uop 0x01 0xFF
  | .padLen => .uop 0x02 0xFF
  | .step0 => .uop 0x80 0xFF
  | .step1 => .uop 0x81 0xFF
  | .step2 => .uop 0x82 0xFF
  | .step3 => .uop 0x83 0xFF
  | .step4 => .uop 0x84 0xFF
  | .step5 => .uop 0x85 0xFF
  | .step6 => .uop 0x86 0xFF
  | .step7 => .uop 0x87 0xFF
  | .step8 => .uop 0x88 0xFF
  | .step9 => .uop 0x89 0xFF
  | .step10 => .uop 0x8A 0xFF
  | .step11 => .uop 0x8B 0xFF
  | .step12 => .uop 0x8C 0xFF
  | .step13 => .uop 0x8D 0xFF
  | .step14 => .uop 0x8E 0xFF
  | .step15 => .uop 0x8F 0xFF
  | .step16 => .uop 0x90 0xFF
  | .step17 => .uop 0x91 0xFF
  | .step18 => .uop 0x92 0xFF
  | .step19 => .uop 0x93 0xFF
  | .step20 => .uop 0x94 0xFF
  | .step21 => .uop 0x95 0xFF
  | .step22 => .uop 0x96 0xFF
  | .step23 => .uop 0x97 0xFF
  | .step24 => .uop 0x98 0xFF
  | .step25 => .uop 0x99 0xFF
  | .step26 => .uop 0x9A 0xFF
  | .step27 => .uop 0x9B 0xFF
  | .step28 => .uop 0x9C 0xFF
  | .step29 => .uop 0x9D 0xFF
  | .step30 => .uop 0x9E 0xFF
  | .step31 => .uop 0x9F 0xFF
  | .step32 => .uop 0xA0 0xFF
  | .step33 => .uop 0xA1 0xFF
  | .step34 => .uop 0xA2 0xFF
  | .step35 => .uop 0xA3 0xFF
  | .step36 => .uop 0xA4 0xFF
  | .step37 => .uop 0xA5 0xFF
  | .step38 => .uop 0xA6 0xFF
  | .step39 => .uop 0xA7 0xFF
  | .step40 => .uop 0xA8 0xFF
  | .step41 => .uop 0xA9 0xFF
  | .step42 => .uop 0xAA 0xFF
  | .step43 => .uop 0xAB 0xFF
  | .step44 => .uop 0xAC 0xFF
  | .step45 => .uop 0xAD 0xFF
  | .step46 => .uop 0xAE 0xFF
  | .step47 => .uop 0xAF 0xFF
  | .engCombine => .uop 0xB0 0xFF
  | .engSave => .uop 0xBF 0xFF
  | .serLatch => .uop 0xC0 0xFF

/-- A code is selected by a row when it is of the row's format and its bits under the mask are the match
(30_encoding.md R81). -/
def OpcodeRow.selects : OpcodeRow → Code → Bool
  | .cmd p m, .cmd w => w &&& m == p
  | .uop p m, .uop c => c &&& m == p
  | .cmd _ _, .uop _ => false
  | .uop _ _, .cmd _ => false

/-- The code whose bits are `w`, of a row that the opcode table gives `nbits` bits, in whole bytes: an 8-bit row is a UOP
code, a wider one a 10-bit CMD word. Bits above the format's width stand for nothing (log 16). -/
def tableCode (nbits w : Nat) : Option Code :=
  if nbits ≤ 8 then (if w < 256 then some (.uop (BitVec.ofNat 8 w)) else none)
  else if w < 1024 then some (.cmd (BitVec.ofNat 10 w)) else none

/-- The operation the decoder reads from a code whose bits are `w` (log 16). -/
def decodeTableWord (nbits w : Nat) : Option Instr :=
  match tableCode nbits w with
  | some c => (decode c).toOption
  | none => none

end Sys2Proof
end

