-- ==== Sys2Proof/Machine/State.lean ====
section
/-! DEFINITION. The state record of md4_core (10_state.md R20), the host as the list of what it does next, the reasons a step
can stop, and the state after reset (70_reset_and_hazards.md R270). -/

namespace Sys2Proof.Machine

/-- One of the two byte arrays `BLK` and `DG` (20_memory.md R60): the cells that do not hold the value an unlisted address
reads as, addresses rising. The canonical form is `Memory.wf` of Machine/Ops.lean (log 9). -/
abbrev Memory := List Host.Cell

/-- The engine's sequencer phase (10_state.md R20, R29). Code 3 is unreachable and has no constructor (log 7). -/
inductive EngPhase where
  /-- `E_IDLE`, code 0: no Block is being compressed. -/
  | idle
  /-- `E_RUN`, code 1: step `t` is the next micro-operation. -/
  | run
  /-- `E_ADD`, code 2: ENG.COMBINE is the next micro-operation. -/
  | add
  deriving DecidableEq, Repr

/-- The padder's phase (10_state.md R25). Codes 5, 6, 7 are reserved and have no constructor (log 7). -/
inductive PadPhase where
  /-- `P_MSG`, code 0: a message is open. -/
  | msg
  /-- `P_MARK`, code 1: the byte 0x80 is owed. -/
  | mark
  /-- `P_ZERO`, code 2: bytes 0x00 are owed until `pos = 56`. -/
  | zero
  /-- `P_LEN`, code 3: length byte `len_idx` is owed. -/
  | len
  /-- `P_DONE`, code 4: the Padded Message is complete. -/
  | done
  deriving DecidableEq, Repr

/-- The causes of a fault of the command port (60_exceptions.md R240). -/
inductive Cause where
  /-- `ILLEGAL_COMMAND` (60_exceptions.md R241). -/
  | illegalCommand
  /-- `PROTOCOL_ERROR` (60_exceptions.md R242). -/
  | protocolError
  /-- `DIGEST_NOT_VALID` (60_exceptions.md R243). -/
  | digestNotValid
  deriving DecidableEq, Repr

/-- What the host does at the input ports (44_host_commands.md R215, R225) in one operation slot (log 1). -/
inductive HostAct where
  /-- `rst = 1` for one slot. It overrides everything (70_reset_and_hazards.md R270; log 12). -/
  | reset
  /-- `cmd_valid = 1` with this word on `cmd`, kept until the word is transferred (30_encoding.md R86). -/
  | hold (w : BitVec 10)
  /-- `cmd_valid = 1` with this word on `cmd` for one slot, withdrawn afterwards, taken or not. -/
  | offer (w : BitVec 10)
  /-- `cmd_valid = 0` for one slot. -/
  | pause
  deriving DecidableEq, Repr

/-- The complete state of `md4_core` (10_state.md R20), under the spec's names, and two fields of the model's own. -/
structure State where
  /-- Digest State word A. -/
  A : Word
  /-- Digest State word B. -/
  B : Word
  /-- Digest State word C. -/
  C : Word
  /-- Digest State word D. -/
  D : Word
  /-- Copy of A taken at the start of the current Block (10_state.md R22). -/
  AA : Word
  /-- Copy of B taken at the start of the current Block. -/
  BB : Word
  /-- Copy of C taken at the start of the current Block. -/
  CC : Word
  /-- Copy of D taken at the start of the current Block. -/
  DD : Word
  /-- `eng_phase` (10_state.md R29). -/
  engPhase : EngPhase
  /-- Index of the next step (10_state.md R29). -/
  t : BitVec 6
  /-- `BLK[0..63]`, the block buffer (10_state.md R23). -/
  BLK : Memory
  /-- Number of bytes in `BLK` (10_state.md R24). -/
  fill : BitVec 7
  /-- `pad_phase` (10_state.md R25). -/
  padPhase : PadPhase
  /-- Number of bytes emitted so far, mod 64 (10_state.md R26). -/
  pos : BitVec 6
  /-- `len_idx`, index of the next length byte (10_state.md R28). -/
  lenIdx : BitVec 3
  /-- Message length in bits, mod 2^64 (10_state.md R27). -/
  bitlen : Word64
  /-- `DG[0..15]`, the digest register (10_state.md R32). -/
  DG : Memory
  /-- `dig_valid` (10_state.md R32). -/
  digValid : Bool
  /-- `err`: the core is faulted (10_state.md R33). -/
  err : Bool
  /-- `err_code`: the cause of the fault, 0 for none (10_state.md R33). -/
  errCode : BitVec 2
  /-- The model's own: what the host does in the coming slots, the next one first. When the list is empty the host does
  nothing any more (44_host_commands.md R225; log 1). -/
  host : List HostAct
  /-- The model's own: the ports `rsp_valid` and `rsp_data` in the slot just performed; `none` is `rsp_valid = 0`
  (44_host_commands.md R215; log 3). -/
  rsp : Option Byte
  deriving DecidableEq, Repr

/-- The machine stops: it is in the faulted state, where only a reset can happen (60_exceptions.md R246), and the host's
remaining actions bring none: it has none left, or it keeps a word presented that is never accepted. Raised by `step`,
never by the meaning of an operation, whose fault entry is a next state. Each is SAFE: the hardware makes no move here
either (93_implementation_defined.md U8, U9; log 5). -/
inductive Fault where
  /-- Stopped with `err_code = 1`, `ILLEGAL_COMMAND`. -/
  | illegalCommand
  /-- Stopped with `err_code = 2`, `PROTOCOL_ERROR`. -/
  | protocolError
  /-- Stopped with `err_code = 3`, `DIGEST_NOT_VALID`. -/
  | digestNotValid
  /-- Stopped with `err = 1` and `err_code = 0`, which violates R36 I12: no run from reset gets here. -/
  | noCause
  deriving DecidableEq, Repr

/-- The model gives no meaning: no run from reset gets to any of these. Each is SAFE: the spec gives no effect there. -/
inductive Refusal where
  /-- An operation that has no meaning in this model yet. -/
  | notModelled (mnemonic : String)
  /-- `SchedPut` while `fill` is 64 or more, an address outside `BLK` (41_block_scheduler.md R121,
  93_implementation_defined.md U3). Raised by the operations that emit a byte; safe (log 6). -/
  | bufferFull
  /-- An index operand outside its field, a term that no command word decodes to. Raised by RDD and RDH; safe (log 15). -/
  | operandRange
  /-- `eng_phase = E_RUN` with `t` of 48 or more, a step that does not exist (93_implementation_defined.md U2). Raised by
  the sequencer; safe (log 7). -/
  | noSuchStep
  /-- A UOP code that is assigned to no operation (93_implementation_defined.md U5). Raised by the sequencer; safe. -/
  | unassignedUop
  deriving DecidableEq, Repr

/-- The state after the hardware reset: every element at its reset value (10_state.md R20, 70_reset_and_hazards.md R270),
with a host that does nothing (log 1) and no response (log 3). -/
def State.reset : State where
  A := Config.ivA
  B := Config.ivB
  C := Config.ivC
  D := Config.ivD
  AA := 0
  BB := 0
  CC := 0
  DD := 0
  engPhase := .idle
  t := 0
  BLK := []
  fill := 0
  padPhase := .msg
  pos := 0
  lenIdx := 0
  bitlen := 0
  DG := []
  digValid := false
  err := false
  errCode := 0
  host := []
  rsp := none

end Sys2Proof.Machine
end

