-- ==== Sys2Proof/Machine/Ops.lean ====
section
/-! DEFINITION. The named operations over memory and registers: the byte arrays `BLK` and `DG` (20_memory.md), the Digest
State registers (10_state.md R21), the procedures of the scheduler and the padder (41_block_scheduler.md, 40_padder.md),
taking a fault (60_exceptions.md R245) and the reset, the only way out of it (70_reset_and_hazards.md R270). -/

namespace Sys2Proof.Machine

/-- What an address that is not listed reads as: the reset contents of `BLK` and `DG` (10_state.md R20; log 9). -/
def Memory.unlisted : Byte := 0

/-- The byte at address `a` (20_memory.md R61, R63). It has no side effect. -/
def Memory.read : Memory → Nat → Byte
  | [], _ => Memory.unlisted
  | (k, v) :: m, a => if k = a then v else Memory.read m a

/-- The array with byte `b` at address `a` (20_memory.md R62), in canonical form. -/
def Memory.write : Memory → Nat → Byte → Memory
  | [], a, b => if b = Memory.unlisted then [] else [(a, b)]
  | (k, v) :: m, a, b =>
    if a < k then (if b = Memory.unlisted then (k, v) :: m else (a, b) :: (k, v) :: m)
    else if a = k then (if b = Memory.unlisted then m else (a, b) :: m)
    else (k, v) :: Memory.write m a b

/-- The array with a sequence of bytes written at consecutive addresses from `a` on. -/
def Memory.writeBytes : Memory → Nat → List Byte → Memory
  | m, _, [] => m
  | m, a, b :: bs => Memory.writeBytes (m.write a b) (a + 1) bs

/-- The array with every byte 0x00 (41_block_scheduler.md R122). -/
def Memory.clear : Memory := []

/-- The canonical form of an array of `size` bytes: addresses strictly rising and below `size`, and no entry equal to what
an unlisted address reads as (log 9). -/
def Memory.wf (size : Nat) : Memory → Bool
  | [] => true
  | (k, v) :: m =>
    decide (k < size) && decide (v ≠ Memory.unlisted) && m.all (fun c => decide (k < c.1)) && Memory.wf size m

/-- A register of the Digest State (10_state.md R21). -/
inductive Reg where
  | A
  | B
  | C
  | D
  deriving DecidableEq, Repr

/-- The value of a register of the Digest State. -/
def State.getReg (s : State) : Reg → Word
  | .A => s.A
  | .B => s.B
  | .C => s.C
  | .D => s.D

/-- Writes a register of the Digest State. -/
def State.setReg (s : State) (r : Reg) (v : Word) : State :=
  match r with
  | .A => { s with A := v }
  | .B => { s with B := v }
  | .C => { s with C := v }
  | .D => { s with D := v }

/-- `X[k]`: word `k` of the Message Schedule, the little-endian word view of `BLK` (20_memory.md R61). -/
def State.X (s : State) (k : Nat) : Word :=
  le32 (s.BLK.read (4 * k)) (s.BLK.read (4 * k + 1)) (s.BLK.read (4 * k + 2)) (s.BLK.read (4 * k + 3))

/-- `SchedPut(b)`: the byte goes to `BLK[fill]`, and `fill` advances (41_block_scheduler.md R121). Its precondition
`fill < 64` is checked by `State.ifRoom`. -/
def State.schedPut (s : State) (b : Byte) : State :=
  { s with BLK := s.BLK.write s.fill.toNat b, fill := s.fill + 1 }

/-- `SchedClear()`: empty and zero the buffer (41_block_scheduler.md R122). -/
def State.schedClear (s : State) : State :=
  { s with BLK := Memory.clear, fill := 0 }

/-- `PadEmit(b)`: hand a byte to the scheduler and count it mod 64 (40_padder.md R101). -/
def State.padEmit (s : State) (b : Byte) : State :=
  let s' := s.schedPut b
  { s' with pos := s'.pos + 1 }

/-- `PadAbsorb(b)`: the padder's part of DATA (40_padder.md R105). -/
def State.padAbsorb (s : State) (b : Byte) : State :=
  let s' := s.padEmit b
  { s' with bitlen := add64 s'.bitlen 8 }

/-- `PadFinal`: the padder's part of FINAL (40_padder.md R106). -/
def State.padFinal (s : State) : State :=
  { s with padPhase := .mark }

/-- The outcome `s'` of an operation that performs `SchedPut`, where the buffer of the state before it has room; with a
full buffer there is no address to write and the operation is refused (93_implementation_defined.md U3; log 6). -/
def State.ifRoom (s s' : State) : Host.Outcome State Fault Refusal :=
  if s.fill.toNat < Config.blockBytes then .next s' else .refused .bufferFull

/-- The code a cause is recorded under (60_exceptions.md R240). -/
def Cause.code : Cause → BitVec 2
  | .illegalCommand => 1
  | .protocolError => 2
  | .digestNotValid => 3

/-- `raise Fault(code)`: `err` and `err_code` are written and no other state element; no byte is returned, so `rsp_valid`
is 0 (60_exceptions.md R245). -/
def State.raiseFault (s : State) (c : Cause) : State :=
  { s with err := true, errCode := c.code, rsp := none }

/-- The way out of the faulted state, and of every other: `RESET` gives every state element its reset value
(70_reset_and_hazards.md R270, 60_exceptions.md R247). What the host does next is not the core's. -/
def State.hardReset (s : State) : State :=
  { State.reset with host := s.host }

/-- The accepted command returns the byte `b`: `rsp_valid = 1` with `rsp_data = b` (44_host_commands.md R215). -/
def State.respond (s : State) (b : Byte) : State :=
  { s with rsp := some b }

/-- The name under which a machine stopped in the faulted state is reported (60_exceptions.md R246; log 5). -/
def Fault.ofCode (c : BitVec 2) : Fault :=
  if c = 1 then .illegalCommand
  else if c = 2 then .protocolError
  else if c = 3 then .digestNotValid
  else .noCause

end Sys2Proof.Machine
end

