-- ==== Sys2Proof/Machine/Serializer.lean ====
section
/-! DEFINITION. md4_digest_serializer: the micro-operation SER.LATCH and the read functions of RDD and RDH
(43_digest_serializer.md). -/

namespace Sys2Proof.Machine

/-- `Ser(A, B, C, D)`: the words in the order A, B, C, D, each least significant byte first (43_digest_serializer.md R201). -/
def ser (A B C D : Word) : List Byte :=
  [byteOf A 0, byteOf A 1, byteOf A 2, byteOf A 3,
   byteOf B 0, byteOf B 1, byteOf B 2, byteOf B 3,
   byteOf C 0, byteOf C 1, byteOf C 2, byteOf C 3,
   byteOf D 0, byteOf D 1, byteOf D 2, byteOf D 3]

/-- `SER.LATCH`: serialise the final state into `DG[0..15]` (43_digest_serializer.md R200). -/
def execSerLatch (s : State) : Host.Outcome State Fault Refusal :=
  .next { s with DG := s.DG.writeBytes 0 (ser s.A s.B s.C s.D), digValid := true }

/-- `RdDigest(i)` (43_digest_serializer.md R203). -/
def rdDigest (dg : Memory) (i : Nat) : Byte := dg.read i

/-- The ASCII code of a hexadecimal digit (43_digest_serializer.md R204). -/
def hexCode (nib : BitVec 4) (u : Bool) : Byte :=
  if nib ≤ 9 then 0x30 + nib.setWidth 8
  else if u then 0x41 + (nib.setWidth 8 - 10)
  else 0x61 + (nib.setWidth 8 - 10)

/-- The nibble that character `i` shows: the high nibble of `DG[i div 2]` first (43_digest_serializer.md R204). -/
def hexNibble (dg : Memory) (i : Nat) : BitVec 4 :=
  let d := dg.read (i / 2)
  if i % 2 = 0 then d.extractLsb' 4 4 else d.extractLsb' 0 4

/-- `HexChar(i, u)`: character `i` of the hexadecimal rendering of the digest (43_digest_serializer.md R204). It is the
contents of the virtual space `HEX` (20_memory.md R60). -/
def hexChar (dg : Memory) (i : Nat) (u : Bool) : Byte := hexCode (hexNibble dg i) u

end Sys2Proof.Machine
end

