-- ==== Sys2Proof/Machine/Commands.lean ====
section
/-! DEFINITION. The five host commands (44_host_commands.md). A meaning is what `Accept` performs once the word is
transferred; the port transfers a word only while `cmd_ready = 1` (Machine/Port.lean; log 4). -/

namespace Sys2Proof.Machine

/-- `INIT`: every state element except `err` and `err_code` takes its reset value (44_host_commands.md R216). -/
def execInit (s : State) : Host.Outcome State Fault Refusal :=
  .next
    { s.schedClear with
      A := Config.ivA, B := Config.ivB, C := Config.ivC, D := Config.ivD
      AA := 0, BB := 0, CC := 0, DD := 0
      engPhase := .idle, t := 0
      padPhase := .msg, pos := 0, lenIdx := 0, bitlen := 0
      DG := Memory.clear, digValid := false }

/-- `DATA b`: append one byte to the message, or `PROTOCOL_ERROR` when the message is closed (44_host_commands.md R217). -/
def execData (b : Byte) (s : State) : Host.Outcome State Fault Refusal :=
  if s.padPhase = .msg then s.ifRoom (s.padAbsorb b) else .next (s.raiseFault .protocolError)

/-- `FINAL`: end the message, or `PROTOCOL_ERROR` when it is closed already (44_host_commands.md R218). -/
def execFinal (s : State) : Host.Outcome State Fault Refusal :=
  if s.padPhase = .msg then .next s.padFinal else .next (s.raiseFault .protocolError)

/-- `RDD i`: return digest byte `i`, or `DIGEST_NOT_VALID` when there is no digest (44_host_commands.md R219). -/
def execRdd (i : Nat) (s : State) : Host.Outcome State Fault Refusal :=
  if i < Config.digestBytes then
    (if s.digValid then .next (s.respond (rdDigest s.DG i)) else .next (s.raiseFault .digestNotValid))
  else .refused .operandRange

/-- `RDH i, u`: return hexadecimal character `i`, or `DIGEST_NOT_VALID` when there is no digest
(44_host_commands.md R220). -/
def execRdh (i : Nat) (u : Bool) (s : State) : Host.Outcome State Fault Refusal :=
  if i < 2 * Config.digestBytes then
    (if s.digValid then .next (s.respond (hexChar s.DG i u)) else .next (s.raiseFault .digestNotValid))
  else .refused .operandRange

end Sys2Proof.Machine
end

