-- ==== Sys2Proof/Machine/Operands.lean ====
section
/-! DEFINITION. The operands of the steps: the round functions, constants and tables (42_compression_engine.md R132 to R134,
R137), the register update every step performs, and the general step rule R135 as a function of the step index. -/

namespace Sys2Proof.Machine

/-- `F(x, y, z)`, round 1: for each bit, if x then y else z (42_compression_engine.md R132). -/
def roundF (x y z : Word) : Word := (x &&& y) ||| (not32 x &&& z)

/-- `G(x, y, z)`, round 2: for each bit, the majority (42_compression_engine.md R132). -/
def roundG (x y z : Word) : Word := (x &&& y) ||| (x &&& z) ||| (y &&& z)

/-- `H(x, y, z)`, round 3: for each bit, the parity (42_compression_engine.md R132). -/
def roundH (x y z : Word) : Word := x ^^^ y ^^^ z

/-- `K_0`: round 1 has no additive constant (42_compression_engine.md R133). -/
def K0 : Word := 0x00000000

/-- `K_1`, the constant of round 2 (42_compression_engine.md R133). -/
def K1 : Word := 0x5A827999

/-- `K_2`, the constant of round 3 (42_compression_engine.md R133). -/
def K2 : Word := 0x6ED9EBA1

/-- `KIDX[0]`, the word order of round 1 (42_compression_engine.md R134). -/
def kidxRound1 : List Nat := [0, 1, 2, 3, 4, 5, 6, 7, 8, 9, 10, 11, 12, 13, 14, 15]

/-- `KIDX[1]`, the word order of round 2 (42_compression_engine.md R134). -/
def kidxRound2 : List Nat := [0, 4, 8, 12, 1, 5, 9, 13, 2, 6, 10, 14, 3, 7, 11, 15]

/-- `KIDX[2]`, the word order of round 3 (42_compression_engine.md R134). -/
def kidxRound3 : List Nat := [0, 8, 4, 12, 2, 10, 6, 14, 1, 9, 5, 13, 3, 11, 7, 15]

/-- `KIDX[r][i]`, with `r` the round minus 1 and `i` the step number within the round (42_compression_engine.md R134). -/
def kidx (r i : Nat) : Nat :=
  if r = 0 then kidxRound1.getD i 0 else if r = 1 then kidxRound2.getD i 0 else kidxRound3.getD i 0

/-- `SH[r][j]`, the rotate amounts (42_compression_engine.md R134). -/
def rotAmount (r j : Nat) : Nat :=
  if r = 0 then [3, 7, 11, 19].getD j 0 else if r = 1 then [3, 5, 9, 13].getD j 0 else [3, 9, 11, 15].getD j 0

/-- `f_r`, the function of round `r + 1` (42_compression_engine.md R132, R135). -/
def roundFn (r : Nat) : Word → Word → Word → Word :=
  if r = 0 then roundF else if r = 1 then roundG else roundH

/-- `K_r`, the constant of round `r + 1` (42_compression_engine.md R133). -/
def roundK (r : Nat) : Word :=
  if r = 0 then K0 else if r = 1 then K1 else K2

/-- `TGT[j]`, the register the step updates (42_compression_engine.md R134). -/
def tgt (j : Nat) : Reg := [Reg.A, Reg.D, Reg.C, Reg.B].getD j .A

/-- `OPS[j] = (x, y, z)`, the operand registers (42_compression_engine.md R134). -/
def ops (j : Nat) : Reg × Reg × Reg :=
  [(Reg.B, Reg.C, Reg.D), (Reg.A, Reg.B, Reg.C), (Reg.D, Reg.A, Reg.B), (Reg.C, Reg.D, Reg.A)].getD j (.B, .C, .D)

/-- The register update of every step: `T <- rotl32(add32(T, f(x, y, z), X[k], K), s)`, the operands read before the write
(42_compression_engine.md R135). -/
def State.stepReg (s : State) (T : Reg) (f : Word → Word → Word → Word) (x y z : Reg) (k : Nat) (K : Word)
    (sh : Nat) : State :=
  s.setReg T (rotl32 (add32x4 (s.getReg T) (f (s.getReg x) (s.getReg y) (s.getReg z)) (s.X k) K) sh)

/-- A step that is not the last names the next one (42_compression_engine.md R135). -/
def State.thenStep (s : State) (t : BitVec 6) : State := { s with t := t }

/-- The last step hands over to ENG.COMBINE (42_compression_engine.md R135, `t = 47`). -/
def State.thenCombine (s : State) : State := { s with engPhase := .add, t := 0 }

/-- The general step rule: `STEP t` as a function of `t` (42_compression_engine.md R135), with `r = t[5:4]`, `i = t[3:0]` and
`j = t[1:0]` (10_state.md R29). -/
def State.stepByTables (s : State) (t : BitVec 6) : State :=
  let r := (t.extractLsb' 4 2).toNat
  let i := (t.extractLsb' 0 4).toNat
  let j := (t.extractLsb' 0 2).toNat
  let (x, y, z) := ops j
  let s' := s.stepReg (tgt j) (roundFn r) x y z (kidx r i) (roundK r) (rotAmount r j)
  if t = 47 then s'.thenCombine else s'.thenStep (t + 1)

/-- The closed form of `KIDX[1]`: the two 2-bit halves of `i` exchanged (42_compression_engine.md R137). -/
def kidxClosed2 (i : BitVec 4) : BitVec 4 := i.extractLsb' 0 2 ++ i.extractLsb' 2 2

/-- The closed form of `KIDX[2]`: the four bits of `i` reversed (42_compression_engine.md R137). -/
def kidxClosed3 (i : BitVec 4) : BitVec 4 := i.reverse

end Sys2Proof.Machine
end

