-- ==== Sys2Proof/Machine/Engine.lean ====
section
/-! DEFINITION. The micro-operations of md4_compression_engine (42_compression_engine.md): ENG.SAVE, the forty-eight steps, each
from its own rule, and ENG.COMBINE. -/

namespace Sys2Proof.Machine

/-- `ENG.SAVE`: save the Digest State and start the steps (42_compression_engine.md R131). -/
def execEngSave (s : State) : Host.Outcome State Fault Refusal :=
  .next { s with AA := s.A, BB := s.B, CC := s.C, DD := s.D, t := 0, engPhase := .run }

/-- `STEP 0` (`R1.0`), 42_compression_engine.md R140. -/
def execStep0 (s : State) : Host.Outcome State Fault Refusal :=
  .next ((s.stepReg .A roundF .B .C .D 0 K0 3).thenStep 1)

/-- `STEP 1` (`R1.1`), 42_compression_engine.md R141. -/
def execStep1 (s : State) : Host.Outcome State Fault Refusal :=
  .next ((s.stepReg .D roundF .A .B .C 1 K0 7).thenStep 2)

/-- `STEP 2` (`R1.2`), 42_compression_engine.md R142. -/
def execStep2 (s : State) : Host.Outcome State Fault Refusal :=
  .next ((s.stepReg .C roundF .D .A .B 2 K0 11).thenStep 3)

/-- `STEP 3` (`R1.3`), 42_compression_engine.md R143. -/
def execStep3 (s : State) : Host.Outcome State Fault Refusal :=
  .next ((s.stepReg .B roundF .C .D .A 3 K0 19).thenStep 4)

/-- `STEP 4` (`R1.4`), 42_compression_engine.md R144. -/
def execStep4 (s : State) : Host.Outcome State Fault Refusal :=
  .next ((s.stepReg .A roundF .B .C .D 4 K0 3).thenStep 5)

/-- `STEP 5` (`R1.5`), 42_compression_engine.md R145. -/
def execStep5 (s : State) : Host.Outcome State Fault Refusal :=
  .next ((s.stepReg .D roundF .A .B .C 5 K0 7).thenStep 6)

/-- `STEP 6` (`R1.6`), 42_compression_engine.md R146. -/
def execStep6 (s : State) : Host.Outcome State Fault Refusal :=
  .next ((s.stepReg .C roundF .D .A .B 6 K0 11).thenStep 7)

/-- `STEP 7` (`R1.7`), 42_compression_engine.md R147. -/
def execStep7 (s : State) : Host.Outcome State Fault Refusal :=
  .next ((s.stepReg .B roundF .C .D .A 7 K0 19).thenStep 8)

/-- `STEP 8` (`R1.8`), 42_compression_engine.md R148. -/
def execStep8 (s : State) : Host.Outcome State Fault Refusal :=
  .next ((s.stepReg .A roundF .B .C .D 8 K0 3).thenStep 9)

/-- `STEP 9` (`R1.9`), 42_compression_engine.md R149. -/
def execStep9 (s : State) : Host.Outcome State Fault Refusal :=
  .next ((s.stepReg .D roundF .A .B .C 9 K0 7).thenStep 10)

/-- `STEP 10` (`R1.10`), 42_compression_engine.md R150. -/
def execStep10 (s : State) : Host.Outcome State Fault Refusal :=
  .next ((s.stepReg .C roundF .D .A .B 10 K0 11).thenStep 11)

/-- `STEP 11` (`R1.11`), 42_compression_engine.md R151. -/
def execStep11 (s : State) : Host.Outcome State Fault Refusal :=
  .next ((s.stepReg .B roundF .C .D .A 11 K0 19).thenStep 12)

/-- `STEP 12` (`R1.12`), 42_compression_engine.md R152. -/
def execStep12 (s : State) : Host.Outcome State Fault Refusal :=
  .next ((s.stepReg .A roundF .B .C .D 12 K0 3).thenStep 13)

/-- `STEP 13` (`R1.13`), 42_compression_engine.md R153. -/
def execStep13 (s : State) : Host.Outcome State Fault Refusal :=
  .next ((s.stepReg .D roundF .A .B .C 13 K0 7).thenStep 14)

/-- `STEP 14` (`R1.14`), 42_compression_engine.md R154. -/
def execStep14 (s : State) : Host.Outcome State Fault Refusal :=
  .next ((s.stepReg .C roundF .D .A .B 14 K0 11).thenStep 15)

/-- `STEP 15` (`R1.15`), 42_compression_engine.md R155. -/
def execStep15 (s : State) : Host.Outcome State Fault Refusal :=
  .next ((s.stepReg .B roundF .C .D .A 15 K0 19).thenStep 16)

/-- `STEP 16` (`R2.0`), 42_compression_engine.md R156. -/
def execStep16 (s : State) : Host.Outcome State Fault Refusal :=
  .next ((s.stepReg .A roundG .B .C .D 0 K1 3).thenStep 17)

/-- `STEP 17` (`R2.1`), 42_compression_engine.md R157. -/
def execStep17 (s : State) : Host.Outcome State Fault Refusal :=
  .next ((s.stepReg .D roundG .A .B .C 4 K1 5).thenStep 18)

/-- `STEP 18` (`R2.2`), 42_compression_engine.md R158. -/
def execStep18 (s : State) : Host.Outcome State Fault Refusal :=
  .next ((s.stepReg .C roundG .D .A .B 8 K1 9).thenStep 19)

/-- `STEP 19` (`R2.3`), 42_compression_engine.md R159. -/
def execStep19 (s : State) : Host.Outcome State Fault Refusal :=
  .next ((s.stepReg .B roundG .C .D .A 12 K1 13).thenStep 20)

/-- `STEP 20` (`R2.4`), 42_compression_engine.md R160. -/
def execStep20 (s : State) : Host.Outcome State Fault Refusal :=
  .next ((s.stepReg .A roundG .B .C .D 1 K1 3).thenStep 21)

/-- `STEP 21` (`R2.5`), 42_compression_engine.md R161. -/
def execStep21 (s : State) : Host.Outcome State Fault Refusal :=
  .next ((s.stepReg .D roundG .A .B .C 5 K1 5).thenStep 22)

/-- `STEP 22` (`R2.6`), 42_compression_engine.md R162. -/
def execStep22 (s : State) : Host.Outcome State Fault Refusal :=
  .next ((s.stepReg .C roundG .D .A .B 9 K1 9).thenStep 23)

/-- `STEP 23` (`R2.7`), 42_compression_engine.md R163. -/
def execStep23 (s : State) : Host.Outcome State Fault Refusal :=
  .next ((s.stepReg .B roundG .C .D .A 13 K1 13).thenStep 24)

/-- `STEP 24` (`R2.8`), 42_compression_engine.md R164. -/
def execStep24 (s : State) : Host.Outcome State Fault Refusal :=
  .next ((s.stepReg .A roundG .B .C .D 2 K1 3).thenStep 25)

/-- `STEP 25` (`R2.9`), 42_compression_engine.md R165. -/
def execStep25 (s : State) : Host.Outcome State Fault Refusal :=
  .next ((s.stepReg .D roundG .A .B .C 6 K1 5).thenStep 26)

/-- `STEP 26` (`R2.10`), 42_compression_engine.md R166. -/
def execStep26 (s : State) : Host.Outcome State Fault Refusal :=
  .next ((s.stepReg .C roundG .D .A .B 10 K1 9).thenStep 27)

/-- `STEP 27` (`R2.11`), 42_compression_engine.md R167. -/
def execStep27 (s : State) : Host.Outcome State Fault Refusal :=
  .next ((s.stepReg .B roundG .C .D .A 14 K1 13).thenStep 28)

/-- `STEP 28` (`R2.12`), 42_compression_engine.md R168. -/
def execStep28 (s : State) : Host.Outcome State Fault Refusal :=
  .next ((s.stepReg .A roundG .B .C .D 3 K1 3).thenStep 29)

/-- `STEP 29` (`R2.13`), 42_compression_engine.md R169. -/
def execStep29 (s : State) : Host.Outcome State Fault Refusal :=
  .next ((s.stepReg .D roundG .A .B .C 7 K1 5).thenStep 30)

/-- `STEP 30` (`R2.14`), 42_compression_engine.md R170. -/
def execStep30 (s : State) : Host.Outcome State Fault Refusal :=
  .next ((s.stepReg .C roundG .D .A .B 11 K1 9).thenStep 31)

/-- `STEP 31` (`R2.15`), 42_compression_engine.md R171. -/
def execStep31 (s : State) : Host.Outcome State Fault Refusal :=
  .next ((s.stepReg .B roundG .C .D .A 15 K1 13).thenStep 32)

/-- `STEP 32` (`R3.0`), 42_compression_engine.md R172. -/
def execStep32 (s : State) : Host.Outcome State Fault Refusal :=
  .next ((s.stepReg .A roundH .B .C .D 0 K2 3).thenStep 33)

/-- `STEP 33` (`R3.1`), 42_compression_engine.md R173. -/
def execStep33 (s : State) : Host.Outcome State Fault Refusal :=
  .next ((s.stepReg .D roundH .A .B .C 8 K2 9).thenStep 34)

/-- `STEP 34` (`R3.2`), 42_compression_engine.md R174. -/
def execStep34 (s : State) : Host.Outcome State Fault Refusal :=
  .next ((s.stepReg .C roundH .D .A .B 4 K2 11).thenStep 35)

/-- `STEP 35` (`R3.3`), 42_compression_engine.md R175. -/
def execStep35 (s : State) : Host.Outcome State Fault Refusal :=
  .next ((s.stepReg .B roundH .C .D .A 12 K2 15).thenStep 36)

/-- `STEP 36` (`R3.4`), 42_compression_engine.md R176. -/
def execStep36 (s : State) : Host.Outcome State Fault Refusal :=
  .next ((s.stepReg .A roundH .B .C .D 2 K2 3).thenStep 37)

/-- `STEP 37` (`R3.5`), 42_compression_engine.md R177. -/
def execStep37 (s : State) : Host.Outcome State Fault Refusal :=
  .next ((s.stepReg .D roundH .A .B .C 10 K2 9).thenStep 38)

/-- `STEP 38` (`R3.6`), 42_compression_engine.md R178. -/
def execStep38 (s : State) : Host.Outcome State Fault Refusal :=
  .next ((s.stepReg .C roundH .D .A .B 6 K2 11).thenStep 39)

/-- `STEP 39` (`R3.7`), 42_compression_engine.md R179. -/
def execStep39 (s : State) : Host.Outcome State Fault Refusal :=
  .next ((s.stepReg .B roundH .C .D .A 14 K2 15).thenStep 40)

/-- `STEP 40` (`R3.8`), 42_compression_engine.md R180. -/
def execStep40 (s : State) : Host.Outcome State Fault Refusal :=
  .next ((s.stepReg .A roundH .B .C .D 1 K2 3).thenStep 41)

/-- `STEP 41` (`R3.9`), 42_compression_engine.md R181. -/
def execStep41 (s : State) : Host.Outcome State Fault Refusal :=
  .next ((s.stepReg .D roundH .A .B .C 9 K2 9).thenStep 42)

/-- `STEP 42` (`R3.10`), 42_compression_engine.md R182. -/
def execStep42 (s : State) : Host.Outcome State Fault Refusal :=
  .next ((s.stepReg .C roundH .D .A .B 5 K2 11).thenStep 43)

/-- `STEP 43` (`R3.11`), 42_compression_engine.md R183. -/
def execStep43 (s : State) : Host.Outcome State Fault Refusal :=
  .next ((s.stepReg .B roundH .C .D .A 13 K2 15).thenStep 44)

/-- `STEP 44` (`R3.12`), 42_compression_engine.md R184. -/
def execStep44 (s : State) : Host.Outcome State Fault Refusal :=
  .next ((s.stepReg .A roundH .B .C .D 3 K2 3).thenStep 45)

/-- `STEP 45` (`R3.13`), 42_compression_engine.md R185. -/
def execStep45 (s : State) : Host.Outcome State Fault Refusal :=
  .next ((s.stepReg .D roundH .A .B .C 11 K2 9).thenStep 46)

/-- `STEP 46` (`R3.14`), 42_compression_engine.md R186. -/
def execStep46 (s : State) : Host.Outcome State Fault Refusal :=
  .next ((s.stepReg .C roundH .D .A .B 7 K2 11).thenStep 47)

/-- `STEP 47` (`R3.15`), 42_compression_engine.md R187. -/
def execStep47 (s : State) : Host.Outcome State Fault Refusal :=
  .next (s.stepReg .B roundH .C .D .A 15 K2 15).thenCombine

/-- `ENG.COMBINE`: add the saved state, release the buffer (42_compression_engine.md R188). -/
def execEngCombine (s : State) : Host.Outcome State Fault Refusal :=
  .next
    { s.schedClear with
      A := add32 s.A s.AA, B := add32 s.B s.BB, C := add32 s.C s.CC, D := add32 s.D s.DD
      engPhase := .idle }

end Sys2Proof.Machine
end

