-- ==== Sys2Proof/Machine/Padder.lean ====
section
/-! DEFINITION. The micro-operations of md4_padder (40_padder.md). -/

namespace Sys2Proof.Machine

/-- Where the padder goes after a byte of step 1 or 2 of the padding: to the length field when the running length is 56 mod
64, else to the zero bytes. `pos` is the value after `PadEmit` (40_padder.md R102, R103). -/
def phaseAfterPad (pos : BitVec 6) : PadPhase := if pos = 56 then .len else .zero

/-- `PAD.MARK`: append the marker byte (40_padder.md R102). -/
def execPadMark (s : State) : Host.Outcome State Fault Refusal :=
  let s' := s.padEmit 0x80
  s.ifRoom { s' with padPhase := phaseAfterPad s'.pos }

/-- `PAD.ZERO`: append one zero byte (40_padder.md R103). -/
def execPadZero (s : State) : Host.Outcome State Fault Refusal :=
  let s' := s.padEmit 0x00
  s.ifRoom (if s'.pos = 56 then { s' with padPhase := .len } else s')

/-- `PAD.LEN`: append byte `len_idx` of the length field; after byte 7 the Padded Message is complete (40_padder.md R104). -/
def execPadLen (s : State) : Host.Outcome State Fault Refusal :=
  let s' := s.padEmit (byteOf s.bitlen s.lenIdx.toNat)
  s.ifRoom
    (if s'.lenIdx = 7 then { s' with lenIdx := 0, padPhase := .done } else { s' with lenIdx := s'.lenIdx + 1 })

end Sys2Proof.Machine
end

