-- ==== Sys2Proof/Machine/Sequencer.lean ====
section
/-! DEFINITION. The selection of the next micro-operation (30_encoding.md R85). -/

namespace Sys2Proof.Machine

/-- The code of `STEP t`: the low six bits are the step index itself (30_encoding.md R84). -/
def stepCode (t : BitVec 6) : BitVec 8 := 2#2 ++ t

/-- `NextUop(state)`: the code of the first line of 30_encoding.md R85 whose condition holds, or `none`. -/
def nextUop (s : State) : Option (BitVec 8) :=
  if s.err then none
  else if s.engPhase = .run then some (stepCode s.t)
  else if s.engPhase = .add then some 0xB0
  else if s.engPhase = .idle ∧ s.fill = 64 then some 0xBF
  else if s.padPhase = .mark then some 0x00
  else if s.padPhase = .zero then some 0x01
  else if s.padPhase = .len then some 0x02
  else if s.padPhase = .done ∧ s.digValid = false then some 0xC0
  else none

/-- The selection conditions of the seven lines of 30_encoding.md R85, each with the conditions its note adds, as the opcode
table's `selected_when` has them (log 11). In the order STEP, ENG.COMBINE, ENG.SAVE, PAD.MARK, PAD.ZERO, PAD.LEN,
SER.LATCH. -/
def selectionLines (s : State) : List Bool :=
  let idle := decide (s.engPhase = .idle)
  let room := decide (s.fill.toNat < 64)
  [!s.err && decide (s.engPhase = .run),
   !s.err && decide (s.engPhase = .add),
   !s.err && idle && decide (s.fill = 64),
   !s.err && decide (s.padPhase = .mark) && room && idle,
   !s.err && decide (s.padPhase = .zero) && room && idle,
   !s.err && decide (s.padPhase = .len) && room && idle,
   !s.err && decide (s.padPhase = .done) && decide (s.fill = 0) && idle && !s.digValid]

end Sys2Proof.Machine
end

