-- ==== Sys2Proof/Machine/Flags.lean ====
section
/-! DEFINITION. The status outputs (10_state.md R34, 44_host_commands.md R215). The hardware has no condition codes: every
output is a function of the state. -/

namespace Sys2Proof.Machine

/-- `busy`: the sequencer has a micro-operation to perform (10_state.md R34). -/
def State.busy (s : State) : Bool := (nextUop s).isSome

/-- `cmd_ready`: the core accepts a presented word now, `busy = 0` and `err = 0` (10_state.md R34, 30_encoding.md R86). -/
def State.cmdReady (s : State) : Bool := !s.busy && !s.err

/-- `digest[127:0]`, with `DG[i]` in bits 8i+7..8i (10_state.md R34, 43_digest_serializer.md R206). -/
def State.digest (s : State) : BitVec 128 :=
  (List.range 16).foldl (fun acc i => acc ||| ((s.DG.read i).setWidth 128 <<< (8 * i))) 0

/-- `rsp_valid` in the slot just performed (44_host_commands.md R215). -/
def State.rspValid (s : State) : Bool := s.rsp.isSome

/-- The output ports of 44_host_commands.md R215, all the host can observe (10_state.md R35). -/
structure Outputs where
  cmdReady : Bool
  busy : Bool
  digValid : Bool
  fault : Bool
  errCode : BitVec 2
  digest : BitVec 128
  /-- `rsp_valid` and `rsp_data`: `rsp_data` means something only where `rsp_valid = 1`. -/
  rsp : Option Byte
  deriving DecidableEq, Repr

/-- What the host observes in a state (10_state.md R34, R35). -/
def State.outputs (s : State) : Outputs where
  cmdReady := s.cmdReady
  busy := s.busy
  digValid := s.digValid
  fault := s.err
  errCode := s.errCode
  digest := s.digest
  rsp := s.rsp

end Sys2Proof.Machine
end

