-- ==== Sys2Proof/Machine/Port.lean ====
section
/-! DEFINITION. One operation slot of the machine: what the host has at the ports, which operation that makes the machine
perform, and the state the operation's meaning is applied to (00_scope.md R7, 30_encoding.md R85, R86,
44_host_commands.md R215, R221, 70_reset_and_hazards.md R270). -/

namespace Sys2Proof.Machine

/-- The command word at the port in this slot, if `cmd_valid = 1` (44_host_commands.md R215). -/
def presented : List HostAct → Option (BitVec 10)
  | .hold w :: _ => some w
  | .offer w :: _ => some w
  | _ => none

/-- What the host does after a slot in which no transfer happened: a held word stays at the port, anything else is over
(30_encoding.md R86). -/
def untransferred : List HostAct → List HostAct
  | .hold w :: rest => .hold w :: rest
  | _ :: rest => rest
  | [] => []

/-- The core after this slot's ports are read: no response yet, and `host` as given. -/
def State.opened (s : State) (host : List HostAct) : State := { s with host := host, rsp := none }

/-- What one slot comes to. -/
inductive Slot where
  /-- The slot is done and performed no operation of the opcode table: a reset, the fault entry of a reserved word, or
  nothing at all. -/
  | settled (s : State)
  /-- The slot performs operation `i` on the state `s`. -/
  | performs (i : Instr) (s : State)
  /-- Nothing can happen any more. -/
  | stopped (f : Fault)
  /-- The state is one the spec gives no rule for. -/
  | rejected (r : Refusal)
  deriving DecidableEq, Repr

/-- `Accept(w)` (44_host_commands.md R221): the decode check comes first, whatever the state (60_exceptions.md R244). `s` is
the state with the word already taken from the host. -/
def accept (w : BitVec 10) (s : State) : Slot :=
  match decodeCmd w with
  | .ok i => .performs i s
  | .error _ => .settled (s.raiseFault .illegalCommand)

/-- The sequencer's slot when `NextUop` gives the code `c`. A step index of 48 or more names no step, though its code would
be another operation's (93_implementation_defined.md U2; log 7). -/
def sequencerSlot (c : BitVec 8) (s : State) : Slot :=
  if s.engPhase = .run ∧ 48 ≤ s.t then .rejected .noSuchStep
  else
    match decodeUop c with
    | .ok i => .performs i s
    | .error _ => .rejected .unassignedUop

/-- The host's slot when the core is faulted: no command is accepted and no micro-operation is performed
(60_exceptions.md R246). While the host has something else to do than to keep a word presented, the slot passes; when a
reset can come no more, the machine stops (log 5). -/
def faultedSlot (s : State) : Slot :=
  match s.host with
  | [] => .stopped (Fault.ofCode s.errCode)
  | .hold _ :: _ => .stopped (Fault.ofCode s.errCode)
  | _ :: rest => .settled (s.opened rest)

/-- The host's slot when the core is ready: the presented word is transferred, and with no word nothing happens
(44_host_commands.md R215, R225). -/
def readySlot (s : State) : Slot :=
  match presented s.host with
  | some w => accept w (s.opened s.host.tail)
  | none => .settled (s.opened (untransferred s.host))

/-- What the machine does in this slot when `rst = 0`: the selected micro-operation if there is one, else what the host's
word asks for (30_encoding.md R85, R86). -/
def unresetSlot (s : State) : Slot :=
  match nextUop s with
  | some c => sequencerSlot c (s.opened (untransferred s.host))
  | none => if s.err then faultedSlot s else readySlot s

/-- What the machine does in this slot: a reset has priority over everything (70_reset_and_hazards.md R270). -/
def slot (s : State) : Slot :=
  match s.host with
  | .reset :: rest => .settled (s.opened rest).hardReset
  | _ => unresetSlot s

/-- `s` brought to where `NextUop` gives the code `c`, if it ever does: the sequencer state that selects it, in a core that
is not faulted, and no reset at the port. Only what the selection reads is changed (log 2). -/
def State.selecting (s : State) (c : BitVec 8) : State :=
  let host := match s.host with
    | .reset :: rest => HostAct.pause :: .reset :: rest
    | h => h
  let up := { s with err := false, errCode := 0, host := host }
  let room : BitVec 7 := if s.fill.toNat < 64 then s.fill else 0
  if c = 0x00 then { up with engPhase := .idle, t := 0, fill := room, padPhase := .mark }
  else if c = 0x01 then { up with engPhase := .idle, t := 0, fill := room, padPhase := .zero }
  else if c = 0x02 then { up with engPhase := .idle, t := 0, fill := room, padPhase := .len }
  else if c = 0xB0 then { up with engPhase := .add, t := 0 }
  else if c = 0xBF then { up with engPhase := .idle, t := 0, fill := 64 }
  else if c = 0xC0 then { up with engPhase := .idle, t := 0, fill := room, padPhase := .done, digValid := false }
  else if 0x80 ≤ c ∧ c < 0xB0 then { up with engPhase := .run, t := c.extractLsb' 0 6 }
  else s

/-- `s` with the command word `w` at the port, in a core that accepts it in this slot. A core that is not ready is made
ready first: not faulted, the engine idle, the buffer not full, the padder in one of the two ready states (log 2). -/
def State.presenting (s : State) (w : BitVec 10) : State :=
  let r :=
    if s.cmdReady then s
    else
      { s with
        err := false, errCode := 0, engPhase := .idle, t := 0
        fill := if s.fill.toNat < 64 then s.fill else 0
        padPhase := if s.padPhase = .done ∧ s.digValid = true then .done else .msg }
  { r with host := .hold w :: r.host }

end Sys2Proof.Machine
end

