-- ==== Sys2Proof/Machine/Step.lean ====
section
/-! DEFINITION. One step of the machine is one operation slot: at most one atomic operation (00_scope.md R7). -/

namespace Sys2Proof.Machine

/-- One step: the slot's operation is performed by its meaning. -/
def step (s : State) : Host.Outcome State Fault Refusal :=
  match slot s with
  | .settled s' => .next s'
  | .performs i s' => exec i s'
  | .stopped f => .fault f
  | .rejected r => .refused r

/-- `s` with the operation of the code `w` where the next step takes it from: a command word at the command port, a
micro-operation in the sequencer state that selects it (log 2). A number that is no code changes nothing. -/
def State.withFetchWord (s : State) (nbits w : Nat) : State :=
  match tableCode nbits w with
  | some (.cmd c) => s.presenting c
  | some (.uop c) => s.selecting c
  | none => s

end Sys2Proof.Machine
end

