-- ==== Sys2Proof/Machine/Notation.lean ====
section
/-! DEFINITION. The notation for command sequences and its pseudo-instructions (30_encoding.md R89, R90), and what a program
in that notation makes the host do. -/

namespace Sys2Proof.Machine

/-- One line of a program (30_encoding.md R89). -/
inductive Line where
  | init
  | data (b : Byte)
  | final
  | rdd (i : Nat)
  | rdh (i : Nat) (u : Bool)
  /-- Not a command word: the hardware reset, asserted without waiting for `cmd_ready` (log 18). -/
  | reset
  deriving DecidableEq, Repr

/-- The host presents the command and keeps it presented until `cmd_ready = 1` and it is taken: the wait between two lines
is not written (30_encoding.md R89). -/
def sends (i : Instr) : HostAct :=
  match encode i with
  | .cmd w => .hold w
  | .uop _ => .pause

/-- What a line makes the host do. A command waits at the port until it is taken; whether a RESET line waits for
`cmd_ready = 1` too the spec leaves open (30_encoding.md R89 against 95_test_vectors.md P6), and here it does not:
DESIGN CHOICE, log 18. -/
def Line.act : Line → HostAct
  | .init => sends .init
  | .data b => sends (.data b)
  | .final => sends .final
  | .rdd i => sends (.rdd i)
  | .rdh i u => sends (.rdh i u)
  | .reset => .reset

/-- What a program makes the host do. -/
def hostOf (p : List Line) : List HostAct := p.map Line.act

/-- `MSGX h0 ... hm`; `MSG` is the same with the ASCII codes of its characters (30_encoding.md R90). -/
def msgx (M : List Byte) : List Line := M.map .data

/-- `MSGREP <byte>, <count>` (30_encoding.md R90). -/
def msgrep (b : Byte) (count : Nat) : List Line := List.replicate count (.data b)

/-- `HASH <message>` (30_encoding.md R90). -/
def hashOf (M : List Byte) : List Line := .init :: msgx M ++ [.final]

/-- `RDDIGEST` (30_encoding.md R90). -/
def rddigest : List Line := (List.range 16).map .rdd

/-- `RDHEX` and `RDHEX U` (30_encoding.md R90). -/
def rdhex (u : Bool) : List Line := (List.range 32).map fun i => .rdh i u

end Sys2Proof.Machine
end

