-- ==== Sys2Proof/Machine/Reference.lean ====
section
/-! DEFINITION. The reference functions of the spec: what the units compute, as functions of the message
(40_padder.md R100, 41_block_scheduler.md R123, 42_compression_engine.md R190, 43_digest_serializer.md R201,
44_host_commands.md R230). The machine does not use them. -/

namespace Sys2Proof.Machine

/-- `z = (55 - n) mod 64`, the number of zero bytes of the padding (40_padder.md R100). -/
def padZeros (n : Nat) : Nat := (55 + 64 - n % 64) % 64

/-- `Pad(M)` (40_padder.md R100). -/
def pad (M : List Byte) : List Byte :=
  M ++ [0x80] ++ zeros (padZeros M.length) ++ le64bytes (BitVec.ofNat 64 (8 * M.length))

/-- `NB`, the number of Blocks of the padded message of an `n`-byte message (40_padder.md R107). -/
def numBlocks (n : Nat) : Nat := (n + 9 + 63) / 64

/-- `Blocks(P)`: the consecutive 64-byte windows of `P` (41_block_scheduler.md R123). -/
def blocks (P : List Byte) : List (List Byte) :=
  (List.range (P.length / 64)).map fun q => (P.drop (64 * q)).take 64

/-- `DecodeBlock(Bk)`: sixteen little-endian words (41_block_scheduler.md R123). -/
def decodeBlock (Bk : List Byte) : List Word :=
  (List.range 16).map fun k =>
    le32 (Bk.getD (4 * k) 0) (Bk.getD (4 * k + 1) 0) (Bk.getD (4 * k + 2) 0) (Bk.getD (4 * k + 3) 0)

/-- `Schedule(P)` (41_block_scheduler.md R123). -/
def schedule (P : List Byte) : List (List Word) := (blocks P).map decodeBlock

/-- A Digest State `(A, B, C, D)` (00_scope.md, Glossary). -/
structure DigestState where
  A : Word
  B : Word
  C : Word
  D : Word
  deriving DecidableEq, Repr

/-- The IV (00_scope.md R6). -/
def ivState : DigestState := ⟨Config.ivA, Config.ivB, Config.ivC, Config.ivD⟩

/-- One turn of the rotating 4-tuple (42_compression_engine.md R136, R190). -/
def compressStep (X : List Word) (q : DigestState) (t : Nat) : DigestState :=
  let r := t / 16
  ⟨q.D, rotl32 (add32x4 q.A (roundFn r q.B q.C q.D) (X.getD (kidx r (t % 16)) 0) (roundK r)) (rotAmount r (t % 4)),
    q.B, q.C⟩

/-- `Compress((A,B,C,D), X[0..15])` (42_compression_engine.md R190). -/
def compress (q : DigestState) (X : List Word) : DigestState :=
  let q' := (List.range 48).foldl (compressStep X) q
  ⟨add32 q'.A q.A, add32 q'.B q.B, add32 q'.C q.C, add32 q'.D q.D⟩

/-- `fold Compress IV Schedule(Pad(M))`: the final Digest State (42_compression_engine.md R190). -/
def finalState (M : List Byte) : DigestState := (schedule (pad M)).foldl compress ivState

/-- `MD4(M) = Ser(fold Compress IV Schedule(Pad(M)))` (44_host_commands.md R230). -/
def md4 (M : List Byte) : List Byte :=
  let q := finalState M
  ser q.A q.B q.C q.D

/-- `MD4hex(M, u)`: the 32 characters of the digest (44_host_commands.md R230). -/
def md4hex (M : List Byte) (u : Bool) : List Byte :=
  (List.range 32).map fun i => hexChar (Memory.writeBytes [] 0 (md4 M)) i u

end Sys2Proof.Machine
end

