-- ==== Sys2Proof/Safety.lean ====
section
/-! DEFINITION. What a good state and a good run are: the invariants of 10_state.md R36, the two ready states
(44_host_commands.md R224) and a run with no fault recorded (60_exceptions.md R246). -/

namespace Sys2Proof.Machine

/-- The code of an engine phase (10_state.md R20). -/
def EngPhase.code : EngPhase → BitVec 2
  | .idle => 0
  | .run => 1
  | .add => 2

/-- The code of a padder phase (10_state.md R20, R25). -/
def PadPhase.code : PadPhase → BitVec 3
  | .msg => 0
  | .mark => 1
  | .zero => 2
  | .len => 3
  | .done => 4

/-- The invariants I1 to I15 of 10_state.md R36, I15 in the model's reading, with the notes of 30_encoding.md R85 (DEDUCED, log 11),
and the canonical form of the two byte arrays (DESIGN CHOICE, log 9). -/
structure Invariants (s : State) : Prop where
  i1 : s.pos.toNat = s.fill.toNat % 64
  i2 : s.fill.toNat ≤ 64
  i3 : s.engPhase ≠ .idle → s.fill = 64
  i4 : s.t.toNat ≤ 47 ∧ (s.engPhase ≠ .run → s.t = 0)
  i5 : s.bitlen.extractLsb' 0 3 = 0
  i6 : s.padPhase = .msg → s.pos = s.bitlen.extractLsb' 3 6
  i7 : (s.padPhase ≠ .len → s.lenIdx = 0) ∧ (s.padPhase = .len → s.fill.toNat = 56 + s.lenIdx.toNat)
  i8 : s.digValid = true → s.padPhase = .done ∧ s.fill = 0 ∧ s.engPhase = .idle ∧
    ∀ j < 4, s.DG.read j = byteOf s.A j ∧ s.DG.read (4 + j) = byteOf s.B j ∧
      s.DG.read (8 + j) = byteOf s.C j ∧ s.DG.read (12 + j) = byteOf s.D j
  i9 : s.digValid = false → ∀ i < 16, s.DG.read i = 0
  i10 : ∀ p < 64, s.fill.toNat ≤ p → s.BLK.read p = 0
  i11 : s.padPhase.code ≤ 4 ∧ s.engPhase.code ≤ 2
  i12 : s.err = false ↔ s.errCode = 0
  i13 : (s.padPhase = .mark → s.fill.toNat < 64) ∧ (s.padPhase = .done → s.fill = 0 ∨ s.fill = 64)
  i14 : s.err = true → s.busy = false ∧ nextUop { s with err := false } = none
  i15 : (selectionLines s).count true ≤ 1
  blk_wf : s.BLK.wf Config.blockBytes = true
  dg_wf : s.DG.wf Config.digestBytes = true

/-- The ready state "message open" (44_host_commands.md R224). -/
def MessageOpen (s : State) : Prop :=
  s.padPhase = .msg ∧ s.fill.toNat < 64 ∧ s.engPhase = .idle ∧ s.digValid = false ∧ s.err = false

/-- The ready state "finished" (44_host_commands.md R224). -/
def Finished (s : State) : Prop :=
  s.padPhase = .done ∧ s.digValid = true ∧ s.fill = 0 ∧ s.engPhase = .idle ∧ s.err = false

/-- The host leaves the sequencer alone: it does nothing any more, or it keeps one word presented until the core takes it
(44_host_commands.md R225). -/
def HostQuiet (s : State) : Prop :=
  s.host = [] ∨ ∃ w rest, s.host = .hold w :: rest

/-- The step index of an operation that is a step (30_encoding.md R84). -/
def stepIndex (i : Instr) : Option (BitVec 6) :=
  match encode i with
  | .uop c => if 0x80 ≤ c ∧ c < 0xB0 then some (c.extractLsb' 0 6) else none
  | .cmd _ => none

/-- What a host action looks like when the message byte of a DATA word is hidden (30_encoding.md R81). -/
def HostAct.shape : HostAct → HostAct
  | .reset => .reset
  | .hold w => .hold (if cmdOp w = 1 then 0x100 else w)
  | .offer w => .offer (if cmdOp w = 1 then 0x100 else w)
  | .pause => .pause

/-- What decides which operation comes next, and all the host sees of it before a digest is read: every element but the
Digest State, its copy, the bytes of `BLK` and `DG`, the message bytes still to be sent and the byte returned
(10_state.md R31, R35). -/
structure Control where
  engPhase : EngPhase
  t : BitVec 6
  fill : BitVec 7
  padPhase : PadPhase
  pos : BitVec 6
  lenIdx : BitVec 3
  bitlen : Word64
  digValid : Bool
  err : Bool
  errCode : BitVec 2
  host : List HostAct
  rspValid : Bool
  deriving DecidableEq, Repr

/-- The control part of a state. -/
def State.control (s : State) : Control where
  engPhase := s.engPhase
  t := s.t
  fill := s.fill
  padPhase := s.padPhase
  pos := s.pos
  lenIdx := s.lenIdx
  bitlen := s.bitlen
  digValid := s.digValid
  err := s.err
  errCode := s.errCode
  host := s.host.map HostAct.shape
  rspValid := s.rspValid

/-- A run that ends well: it answers a next state with no fault recorded (60_exceptions.md R246). -/
def EndsWell (o : Host.Outcome State Fault Refusal) : Prop :=
  ∃ s, o = .next s ∧ s.err = false

end Sys2Proof.Machine
end

