-- ==== Sys2Proof/Certificates/Slice0/Obligations.lean ====
section
/-! DEFINITION. What is claimed of the model, from the spec's numbered rules. Each docstring names the rules; OBLIGATIONS.json lists
them. -/

open Sys2Proof Sys2Proof.Machine

/-- Decode and encode agree: no bit of an encoding is dropped (30_encoding.md R81, R84). -/
def Obligations.EncodedOperationsDecodeToThemselves : Prop :=
  ∀ i : Instr, WellFormed i → decode (encode i) = .ok i

/-- Each code has one meaning: a code that decodes is the encoding of what it decodes to, and that is well-formed (30_encoding.md
R81, R84). -/
def Obligations.DecodedCodesEncodeToThemselves : Prop :=
  ∀ (c : Code) (i : Instr), decode c = .ok i → WellFormed i ∧ encode i = c

/-- The command decoder of 30_encoding.md R82, by the field `op`, and the counts of legal and illegal words. -/
def Obligations.DecoderFollowsTheFourOps : Prop :=
  (∀ a : BitVec 8, (decodeCmd (cmdWord 0 a)).toOption = if a = 0 then some .init else none) ∧
  (∀ a : BitVec 8, (decodeCmd (cmdWord 1 a)).toOption = some (.data a)) ∧
  (∀ a : BitVec 8, (decodeCmd (cmdWord 2 a)).toOption = if a = 0 then some .final else none) ∧
  (∀ a : BitVec 8, (decodeCmd (cmdWord 3 a)).toOption =
    if a.getLsbD 7 then none
    else if a.getLsbD 6 then some (.rdh (a.toNat % 32) (a.getLsbD 5))
    else if a.toNat / 16 % 4 ≠ 0 then none
    else some (.rdd (a.toNat % 16))) ∧
  ((List.range 1024).filter fun n => (decodeCmd (BitVec.ofNat 10 n)).isOk).length = 338 ∧
  ((List.range 1024).filter fun n => !(decodeCmd (BitVec.ofNat 10 n)).isOk).length = 686

/-- The reserved words are exactly four ranges, and accepting one records `ILLEGAL_COMMAND` and has no other effect
(30_encoding.md R83). -/
def Obligations.ReservedWordsRaiseIllegalCommand : Prop :=
  (∀ w : BitVec 10, (∃ e, decodeCmd w = .error e) ↔
    (0x001 ≤ w ∧ w ≤ 0x0FF) ∨ (0x201 ≤ w ∧ w ≤ 0x2FF) ∨ (0x310 ≤ w ∧ w ≤ 0x33F) ∨ (0x380 ≤ w ∧ w ≤ 0x3FF)) ∧
  (∀ (s : State) (w : BitVec 10) (e : DecodeError), s.cmdReady = true → presented s.host = some w →
    decodeCmd w = .error e →
    step s = .next { s with err := true, errCode := 1, host := s.host.tail, rsp := none })

/-- Codes written out bit by bit from 30_encoding.md R81 and R84 decode to the operations they stand for: a sanity statement. -/
def Obligations.WrittenOutCodesDecode : Prop :=
  decode (.cmd 0b0000000000) = .ok .init ∧ decode (.cmd 0b0101100001) = .ok (.data 0x61) ∧
  decode (.cmd 0b1000000000) = .ok .final ∧ decode (.cmd 0b1100000011) = .ok (.rdd 3) ∧
  decode (.cmd 0b1101000101) = .ok (.rdh 5 false) ∧ decode (.cmd 0b1101100101) = .ok (.rdh 5 true) ∧
  decode (.uop 0b00000000) = .ok .padMark ∧ decode (.uop 0b00000010) = .ok .padLen ∧
  decode (.uop 0b10000000) = .ok .step0 ∧ decode (.uop 0b10101111) = .ok .step47 ∧
  decode (.uop 0b10110000) = .ok .engCombine ∧ decode (.uop 0b10111111) = .ok .engSave ∧
  decode (.uop 0b11000000) = .ok .serLatch

/-- A code selects the row of the opcode table for which `(w & mask) = match`, and at most one (30_encoding.md R81, R84). -/
def Obligations.CodesSelectTheirTableRow : Prop :=
  (∀ (c : Code) (i : Instr), decode c = .ok i → (opcodeRow i).selects c = true) ∧
  (∀ (c : Code) (i : Instr), (opcodeRow i).selects c = true →
    ∃ j, decode c = .ok j ∧ opcodeRow j = opcodeRow i)

/-- Exactly fifty-four UOP codes are assigned, and a step's code carries its index in the low six bits (30_encoding.md R84). -/
def Obligations.AssignedMicroOperationCodes : Prop :=
  (∀ c : BitVec 8, (decodeUop c).isOk = true ↔ c ≤ 0x02 ∨ (0x80 ≤ c ∧ c ≤ 0xB0) ∨ c = 0xBF ∨ c = 0xC0) ∧
  (∀ t : BitVec 6, t < 48 → ∃ i, decodeUop (stepCode t) = .ok i ∧ stepIndex i = some t ∧
    (stepCode t).toNat = 0x80 + t.toNat)

/-- A step runs the decoded operation: the selected micro-operation, or the command word the ready core accepts
(30_encoding.md R85, R86). -/
def Obligations.StepPerformsTheDecodedOperation : Prop :=
  (∀ (s : State) (c : BitVec 8) (i : Instr), s.host.head? ≠ some .reset → nextUop s = some c →
    decode (.uop c) = .ok i → (s.engPhase = .run → s.t < 48) →
    step s = exec i { s with host := untransferred s.host, rsp := none }) ∧
  (∀ (s : State) (w : BitVec 10) (i : Instr), s.cmdReady = true → presented s.host = some w →
    decode (.cmd w) = .ok i → step s = exec i { s with host := s.host.tail, rsp := none })

/-- The model's own: `State.withFetchWord` puts an operation where the very next step performs it, from every state (log 2). -/
def Obligations.FetchWordRunsNext : Prop :=
  ∀ (s : State) (nbits w : Nat) (i : Instr), decodeTableWord nbits w = some i →
    ∃ s', slot (s.withFetchWord nbits w) = .performs i s' ∧ step (s.withFetchWord nbits w) = exec i s'

/-- `Accept(w)`: the decode check comes first, whatever the state, and only RDD and RDH return a byte (44_host_commands.md R221). -/
def Obligations.AcceptDecodesThenPerforms : Prop :=
  ∀ (s : State) (w : BitVec 10), s.cmdReady = true → presented s.host = some w →
    (∀ i, decodeCmd w = .ok i → step s = exec i { s with host := s.host.tail, rsp := none }) ∧
    (∀ e, decodeCmd w = .error e →
      step s = .next { s with err := true, errCode := 1, host := s.host.tail, rsp := none }) ∧
    (∀ t, step s = .next t → t.rsp ≠ none →
      ∃ i, decodeCmd w = .ok (.rdd i) ∨ ∃ u, decodeCmd w = .ok (.rdh i u))

/-- `rotl32` moves bit i to bit (i + s) mod 32 (00_scope.md R10). -/
def Obligations.RotateMovesEachBit : Prop :=
  ∀ (x : Word) (s i : Nat), 1 ≤ s → s ≤ 31 → i < 32 → (rotl32 x s).getLsbD ((i + s) % 32) = x.getLsbD i

/-- The rotate loses no bits, for the eight amounts in use (42_compression_engine.md R189). -/
def Obligations.RotateIsABijection : Prop :=
  ∀ s ∈ [3, 5, 7, 9, 11, 13, 15, 19], Function.Bijective fun x : Word => rotl32 x s

/-- F, G and H by formula and bit by bit: if-then-else, majority, parity (42_compression_engine.md R132). -/
def Obligations.RoundFunctionsBitByBit : Prop :=
  ∀ x y z : Word,
    roundF x y z = (x &&& y) ||| (~~~x &&& z) ∧
    roundG x y z = (x &&& y) ||| (x &&& z) ||| (y &&& z) ∧
    roundH x y z = x ^^^ y ^^^ z ∧
    ∀ b < 32,
      (roundF x y z).getLsbD b = (if x.getLsbD b then y.getLsbD b else z.getLsbD b) ∧
      (roundG x y z).getLsbD b =
        decide (2 ≤ (x.getLsbD b).toNat + (y.getLsbD b).toNat + (z.getLsbD b).toNat) ∧
      (roundH x y z).getLsbD b =
        decide (((x.getLsbD b).toNat + (y.getLsbD b).toNat + (z.getLsbD b).toNat) % 2 = 1)

/-- The closed forms of the word-index tables (42_compression_engine.md R137). -/
def Obligations.WordOrdersHaveClosedForms : Prop :=
  ∀ i : BitVec 4, kidx 0 i.toNat = i.toNat ∧
    kidx 1 i.toNat = (i.extractLsb' 0 2 ++ i.extractLsb' 2 2).toNat ∧
    kidx 1 i.toNat = 4 * (i.toNat % 4) + i.toNat / 4 ∧
    kidx 2 i.toNat = i.reverse.toNat

/-- Each byte of the word view is the byte of `BLK` it covers, least significant first (20_memory.md R61). -/
def Obligations.BlockWordsAreLittleEndian : Prop :=
  ∀ (s : State) (k j : Nat), j < 4 → byteOf (s.X k) j = s.BLK.read (4 * k + j)

/-- The model's own: two arrays in canonical form that read the same are the same data (log 9). -/
def Obligations.CanonicalArraysAreEqualByReads : Prop :=
  ∀ (size : Nat) (m m' : Memory), m.wf size = true → m'.wf size = true →
    (∀ a < size, m.read a = m'.read a) → m = m'

/-- `SchedPut` replaces one byte lane of one word, and no other (20_memory.md R62, 41_block_scheduler.md R121). -/
def Obligations.SchedPutReplacesOneByteLane : Prop :=
  ∀ (s : State) (b : Byte) (k j : Nat), s.BLK.wf 64 = true → s.fill.toNat < 64 → j < 4 →
    byteOf ((s.schedPut b).X k) j = (if 4 * k + j = s.fill.toNat then b else byteOf (s.X k) j) ∧
    (s.schedPut b).fill.toNat = s.fill.toNat + 1

/-- `INIT` (44_host_commands.md R216): every element but `err`, `err_code` takes its reset value. -/
def Obligations.InitRestartsTheMessage : Prop :=
  encode .init = .cmd 0x000 ∧
  (∀ s : State, exec .init s = .next { s with
    A := 0x67452301, B := 0xefcdab89, C := 0x98badcfe, D := 0x10325476
    AA := 0, BB := 0, CC := 0, DD := 0, engPhase := .idle, t := 0, BLK := [], fill := 0
    padPhase := .msg, pos := 0, lenIdx := 0, bitlen := 0, DG := [], digValid := false }) ∧
  (∀ s u : State, s.cmdReady = true → exec .init s = .next u →
    u.digValid = false ∧ u.busy = false ∧ u.cmdReady = true ∧ u = { State.reset with
      errCode := s.errCode, host := s.host, rsp := s.rsp }) ∧
  (∀ (s : State) (rest : List HostAct), s.cmdReady = true → s.host = .hold 0x000 :: rest →
    step s = .next { State.reset with errCode := s.errCode, host := rest })

/-- `DATA b` (44_host_commands.md R217), with `PadAbsorb`, `PadEmit` and `SchedPut`. -/
def Obligations.DataAppendsOneByte : Prop :=
  (∀ b : Byte, encode (.data b) = .cmd (0x100 ||| b.setWidth 10)) ∧
  (∀ (s : State) (b : Byte), s.padPhase = .msg → s.fill.toNat < 64 →
    exec (.data b) s = .next { s with
      BLK := s.BLK.write s.fill.toNat b, fill := s.fill + 1, pos := s.pos + 1, bitlen := s.bitlen + 8 }) ∧
  (∀ (s u : State) (b : Byte), s.padPhase = .msg → s.fill.toNat < 64 → s.engPhase = .idle → s.err = false →
    exec (.data b) s = .next u →
    (u.busy = true ↔ s.fill = 63) ∧ (u.cmdReady = true ↔ s.fill ≠ 63) ∧ (s.fill = 63 → nextUop u = some 0xBF)) ∧
  (∀ (s : State) (b : Byte), s.padPhase ≠ .msg →
    exec (.data b) s = .next { s with err := true, errCode := 2, rsp := none })

/-- `FINAL` (44_host_commands.md R218), with `PadFinal` (40_padder.md R106). -/
def Obligations.FinalStartsThePadding : Prop :=
  encode .final = .cmd 0x200 ∧
  (∀ s : State, s.padPhase = .msg → exec .final s = .next { s with padPhase := .mark }) ∧
  (∀ s u : State, s.cmdReady = true → s.padPhase = .msg → exec .final s = .next u →
    u.busy = true ∧ u.cmdReady = false ∧ nextUop u = some 0x00) ∧
  (∀ s : State, s.padPhase ≠ .msg → exec .final s = .next { s with err := true, errCode := 2, rsp := none })

/-- `RDD i` (44_host_commands.md R219). -/
def Obligations.ReadDigestByte : Prop :=
  (∀ i < 16, encode (.rdd i) = .cmd (0x300 ||| BitVec.ofNat 10 i)) ∧
  (∀ (s : State) (i : Nat), i < 16 → s.digValid = true →
    exec (.rdd i) s = .next { s with rsp := some (s.DG.read i) }) ∧
  (∀ (s : State) (i : Nat), i < 16 → s.digValid = false →
    exec (.rdd i) s = .next { s with err := true, errCode := 3, rsp := none })

/-- `RDH i, u` (44_host_commands.md R220), with the character of 43_digest_serializer.md R204 written out in numbers. -/
def Obligations.ReadHexCharacter : Prop :=
  (∀ i < 32, ∀ u : Bool, encode (.rdh i u) = .cmd (0x340 ||| (if u then 0x020 else 0) ||| BitVec.ofNat 10 i)) ∧
  (∀ (s : State) (i : Nat) (u : Bool), i < 32 → s.digValid = true →
    let d := (s.DG.read (i / 2)).toNat
    let nib := if i % 2 = 0 then d / 16 else d % 16
    let c := if nib ≤ 9 then 0x30 + nib else if u then 0x41 + (nib - 10) else 0x61 + (nib - 10)
    exec (.rdh i u) s = .next { s with rsp := some (BitVec.ofNat 8 c) }) ∧
  (∀ (s : State) (i : Nat) (u : Bool), i < 32 → s.digValid = false →
    exec (.rdh i u) s = .next { s with err := true, errCode := 3, rsp := none })

/-- `PAD.MARK` (40_padder.md R102): encoding, selection, effect, flag. -/
def Obligations.PadMarkAppendsTheMarker : Prop :=
  encode .padMark = .uop 0x00 ∧
  (∀ s : State, nextUop s = some 0x00 ↔
    s.err = false ∧ s.padPhase = .mark ∧ s.engPhase = .idle ∧ s.fill ≠ 64) ∧
  (∀ s : State, s.fill.toNat < 64 →
    exec .padMark s = .next { s with
      BLK := s.BLK.write s.fill.toNat 0x80, fill := s.fill + 1, pos := s.pos + 1
      padPhase := if s.pos + 1 = 56 then .len else .zero }) ∧
  (∀ s u : State, s.err = false → exec .padMark s = .next u → u.busy = true)

/-- `PAD.ZERO` (40_padder.md R103): encoding, selection, effect, flag. -/
def Obligations.PadZeroAppendsAZeroByte : Prop :=
  encode .padZero = .uop 0x01 ∧
  (∀ s : State, nextUop s = some 0x01 ↔
    s.err = false ∧ s.padPhase = .zero ∧ s.engPhase = .idle ∧ s.fill ≠ 64) ∧
  (∀ s : State, s.fill.toNat < 64 →
    exec .padZero s = .next { s with
      BLK := s.BLK.write s.fill.toNat 0x00, fill := s.fill + 1, pos := s.pos + 1
      padPhase := if s.pos + 1 = 56 then .len else s.padPhase }) ∧
  (∀ s u : State, s.err = false → s.padPhase = .zero → exec .padZero s = .next u → u.busy = true)

/-- `PAD.LEN` (40_padder.md R104): encoding, selection, effect, flag. -/
def Obligations.PadLenAppendsALengthByte : Prop :=
  encode .padLen = .uop 0x02 ∧
  (∀ s : State, nextUop s = some 0x02 ↔
    s.err = false ∧ s.padPhase = .len ∧ s.engPhase = .idle ∧ s.fill ≠ 64) ∧
  (∀ s : State, s.fill.toNat < 64 → s.lenIdx ≠ 7 →
    exec .padLen s = .next { s with
      BLK := s.BLK.write s.fill.toNat (s.bitlen.extractLsb' (8 * s.lenIdx.toNat) 8)
      fill := s.fill + 1, pos := s.pos + 1, lenIdx := s.lenIdx + 1 }) ∧
  (∀ s : State, s.fill.toNat < 64 → s.lenIdx = 7 →
    exec .padLen s = .next { s with
      BLK := s.BLK.write s.fill.toNat (s.bitlen.extractLsb' 56 8)
      fill := s.fill + 1, pos := s.pos + 1, lenIdx := 0, padPhase := .done }) ∧
  (∀ s u : State, s.err = false → s.padPhase = .len → s.engPhase = .idle → s.fill.toNat = 56 + s.lenIdx.toNat →
    exec .padLen s = .next u → u.busy = true ∧ (s.lenIdx = 7 → nextUop u = some 0xBF))

/-- `ENG.SAVE` (42_compression_engine.md R131): encoding, selection, effect, flag. -/
def Obligations.EngSaveCopiesTheDigestState : Prop :=
  encode .engSave = .uop 0xBF ∧
  (∀ s : State, s.t < 48 → (nextUop s = some 0xBF ↔ s.err = false ∧ s.engPhase = .idle ∧ s.fill = 64)) ∧
  (∀ s : State, exec .engSave s =
    .next { s with AA := s.A, BB := s.B, CC := s.C, DD := s.D, t := 0, engPhase := .run }) ∧
  (∀ s u : State, s.err = false → exec .engSave s = .next u → u.busy = true)

/-- The steps 0 to 11, each from its own rule (42_compression_engine.md R140 to R151): the code, the one register
written, and the next step; every other element is unchanged. -/
def Obligations.StepsZeroToElevenUpdateTheirRegister : Prop :=
  (encode .step0 = .uop 0x80 ∧ ∀ s : State, exec .step0 s = .next { s with
    A := rotl32 (s.A + roundF s.B s.C s.D + s.X 0) 3, t := 1 }) ∧
  (encode .step1 = .uop 0x81 ∧ ∀ s : State, exec .step1 s = .next { s with
    D := rotl32 (s.D + roundF s.A s.B s.C + s.X 1) 7, t := 2 }) ∧
  (encode .step2 = .uop 0x82 ∧ ∀ s : State, exec .step2 s = .next { s with
    C := rotl32 (s.C + roundF s.D s.A s.B + s.X 2) 11, t := 3 }) ∧
  (encode .step3 = .uop 0x83 ∧ ∀ s : State, exec .step3 s = .next { s with
    B := rotl32 (s.B + roundF s.C s.D s.A + s.X 3) 19, t := 4 }) ∧
  (encode .step4 = .uop 0x84 ∧ ∀ s : State, exec .step4 s = .next { s with
    A := rotl32 (s.A + roundF s.B s.C s.D + s.X 4) 3, t := 5 }) ∧
  (encode .step5 = .uop 0x85 ∧ ∀ s : State, exec .step5 s = .next { s with
    D := rotl32 (s.D + roundF s.A s.B s.C + s.X 5) 7, t := 6 }) ∧
  (encode .step6 = .uop 0x86 ∧ ∀ s : State, exec .step6 s = .next { s with
    C := rotl32 (s.C + roundF s.D s.A s.B + s.X 6) 11, t := 7 }) ∧
  (encode .step7 = .uop 0x87 ∧ ∀ s : State, exec .step7 s = .next { s with
    B := rotl32 (s.B + roundF s.C s.D s.A + s.X 7) 19, t := 8 }) ∧
  (encode .step8 = .uop 0x88 ∧ ∀ s : State, exec .step8 s = .next { s with
    A := rotl32 (s.A + roundF s.B s.C s.D + s.X 8) 3, t := 9 }) ∧
  (encode .step9 = .uop 0x89 ∧ ∀ s : State, exec .step9 s = .next { s with
    D := rotl32 (s.D + roundF s.A s.B s.C + s.X 9) 7, t := 10 }) ∧
  (encode .step10 = .uop 0x8A ∧ ∀ s : State, exec .step10 s = .next { s with
    C := rotl32 (s.C + roundF s.D s.A s.B + s.X 10) 11, t := 11 }) ∧
  (encode .step11 = .uop 0x8B ∧ ∀ s : State, exec .step11 s = .next { s with
    B := rotl32 (s.B + roundF s.C s.D s.A + s.X 11) 19, t := 12 })

/-- The steps 12 to 23, each from its own rule (42_compression_engine.md R152 to R163): the code, the one register
written, and the next step; every other element is unchanged. -/
def Obligations.StepsTwelveToTwentyThreeUpdateTheirRegister : Prop :=
  (encode .step12 = .uop 0x8C ∧ ∀ s : State, exec .step12 s = .next { s with
    A := rotl32 (s.A + roundF s.B s.C s.D + s.X 12) 3, t := 13 }) ∧
  (encode .step13 = .uop 0x8D ∧ ∀ s : State, exec .step13 s = .next { s with
    D := rotl32 (s.D + roundF s.A s.B s.C + s.X 13) 7, t := 14 }) ∧
  (encode .step14 = .uop 0x8E ∧ ∀ s : State, exec .step14 s = .next { s with
    C := rotl32 (s.C + roundF s.D s.A s.B + s.X 14) 11, t := 15 }) ∧
  (encode .step15 = .uop 0x8F ∧ ∀ s : State, exec .step15 s = .next { s with
    B := rotl32 (s.B + roundF s.C s.D s.A + s.X 15) 19, t := 16 }) ∧
  (encode .step16 = .uop 0x90 ∧ ∀ s : State, exec .step16 s = .next { s with
    A := rotl32 (s.A + roundG s.B s.C s.D + s.X 0 + 0x5A827999) 3, t := 17 }) ∧
  (encode .step17 = .uop 0x91 ∧ ∀ s : State, exec .step17 s = .next { s with
    D := rotl32 (s.D + roundG s.A s.B s.C + s.X 4 + 0x5A827999) 5, t := 18 }) ∧
  (encode .step18 = .uop 0x92 ∧ ∀ s : State, exec .step18 s = .next { s with
    C := rotl32 (s.C + roundG s.D s.A s.B + s.X 8 + 0x5A827999) 9, t := 19 }) ∧
  (encode .step19 = .uop 0x93 ∧ ∀ s : State, exec .step19 s = .next { s with
    B := rotl32 (s.B + roundG s.C s.D s.A + s.X 12 + 0x5A827999) 13, t := 20 }) ∧
  (encode .step20 = .uop 0x94 ∧ ∀ s : State, exec .step20 s = .next { s with
    A := rotl32 (s.A + roundG s.B s.C s.D + s.X 1 + 0x5A827999) 3, t := 21 }) ∧
  (encode .step21 = .uop 0x95 ∧ ∀ s : State, exec .step21 s = .next { s with
    D := rotl32 (s.D + roundG s.A s.B s.C + s.X 5 + 0x5A827999) 5, t := 22 }) ∧
  (encode .step22 = .uop 0x96 ∧ ∀ s : State, exec .step22 s = .next { s with
    C := rotl32 (s.C + roundG s.D s.A s.B + s.X 9 + 0x5A827999) 9, t := 23 }) ∧
  (encode .step23 = .uop 0x97 ∧ ∀ s : State, exec .step23 s = .next { s with
    B := rotl32 (s.B + roundG s.C s.D s.A + s.X 13 + 0x5A827999) 13, t := 24 })

/-- The steps 24 to 35, each from its own rule (42_compression_engine.md R164 to R175): the code, the one register
written, and the next step; every other element is unchanged. -/
def Obligations.StepsTwentyFourToThirtyFiveUpdateTheirRegister : Prop :=
  (encode .step24 = .uop 0x98 ∧ ∀ s : State, exec .step24 s = .next { s with
    A := rotl32 (s.A + roundG s.B s.C s.D + s.X 2 + 0x5A827999) 3, t := 25 }) ∧
  (encode .step25 = .uop 0x99 ∧ ∀ s : State, exec .step25 s = .next { s with
    D := rotl32 (s.D + roundG s.A s.B s.C + s.X 6 + 0x5A827999) 5, t := 26 }) ∧
  (encode .step26 = .uop 0x9A ∧ ∀ s : State, exec .step26 s = .next { s with
    C := rotl32 (s.C + roundG s.D s.A s.B + s.X 10 + 0x5A827999) 9, t := 27 }) ∧
  (encode .step27 = .uop 0x9B ∧ ∀ s : State, exec .step27 s = .next { s with
    B := rotl32 (s.B + roundG s.C s.D s.A + s.X 14 + 0x5A827999) 13, t := 28 }) ∧
  (encode .step28 = .uop 0x9C ∧ ∀ s : State, exec .step28 s = .next { s with
    A := rotl32 (s.A + roundG s.B s.C s.D + s.X 3 + 0x5A827999) 3, t := 29 }) ∧
  (encode .step29 = .uop 0x9D ∧ ∀ s : State, exec .step29 s = .next { s with
    D := rotl32 (s.D + roundG s.A s.B s.C + s.X 7 + 0x5A827999) 5, t := 30 }) ∧
  (encode .step30 = .uop 0x9E ∧ ∀ s : State, exec .step30 s = .next { s with
    C := rotl32 (s.C + roundG s.D s.A s.B + s.X 11 + 0x5A827999) 9, t := 31 }) ∧
  (encode .step31 = .uop 0x9F ∧ ∀ s : State, exec .step31 s = .next { s with
    B := rotl32 (s.B + roundG s.C s.D s.A + s.X 15 + 0x5A827999) 13, t := 32 }) ∧
  (encode .step32 = .uop 0xA0 ∧ ∀ s : State, exec .step32 s = .next { s with
    A := rotl32 (s.A + roundH s.B s.C s.D + s.X 0 + 0x6ED9EBA1) 3, t := 33 }) ∧
  (encode .step33 = .uop 0xA1 ∧ ∀ s : State, exec .step33 s = .next { s with
    D := rotl32 (s.D + roundH s.A s.B s.C + s.X 8 + 0x6ED9EBA1) 9, t := 34 }) ∧
  (encode .step34 = .uop 0xA2 ∧ ∀ s : State, exec .step34 s = .next { s with
    C := rotl32 (s.C + roundH s.D s.A s.B + s.X 4 + 0x6ED9EBA1) 11, t := 35 }) ∧
  (encode .step35 = .uop 0xA3 ∧ ∀ s : State, exec .step35 s = .next { s with
    B := rotl32 (s.B + roundH s.C s.D s.A + s.X 12 + 0x6ED9EBA1) 15, t := 36 })

/-- The steps 36 to 47, each from its own rule (42_compression_engine.md R176 to R187): the code, the one register
written, and the next step; every other element is unchanged. -/
def Obligations.StepsThirtySixToFortySevenUpdateTheirRegister : Prop :=
  (encode .step36 = .uop 0xA4 ∧ ∀ s : State, exec .step36 s = .next { s with
    A := rotl32 (s.A + roundH s.B s.C s.D + s.X 2 + 0x6ED9EBA1) 3, t := 37 }) ∧
  (encode .step37 = .uop 0xA5 ∧ ∀ s : State, exec .step37 s = .next { s with
    D := rotl32 (s.D + roundH s.A s.B s.C + s.X 10 + 0x6ED9EBA1) 9, t := 38 }) ∧
  (encode .step38 = .uop 0xA6 ∧ ∀ s : State, exec .step38 s = .next { s with
    C := rotl32 (s.C + roundH s.D s.A s.B + s.X 6 + 0x6ED9EBA1) 11, t := 39 }) ∧
  (encode .step39 = .uop 0xA7 ∧ ∀ s : State, exec .step39 s = .next { s with
    B := rotl32 (s.B + roundH s.C s.D s.A + s.X 14 + 0x6ED9EBA1) 15, t := 40 }) ∧
  (encode .step40 = .uop 0xA8 ∧ ∀ s : State, exec .step40 s = .next { s with
    A := rotl32 (s.A + roundH s.B s.C s.D + s.X 1 + 0x6ED9EBA1) 3, t := 41 }) ∧
  (encode .step41 = .uop 0xA9 ∧ ∀ s : State, exec .step41 s = .next { s with
    D := rotl32 (s.D + roundH s.A s.B s.C + s.X 9 + 0x6ED9EBA1) 9, t := 42 }) ∧
  (encode .step42 = .uop 0xAA ∧ ∀ s : State, exec .step42 s = .next { s with
    C := rotl32 (s.C + roundH s.D s.A s.B + s.X 5 + 0x6ED9EBA1) 11, t := 43 }) ∧
  (encode .step43 = .uop 0xAB ∧ ∀ s : State, exec .step43 s = .next { s with
    B := rotl32 (s.B + roundH s.C s.D s.A + s.X 13 + 0x6ED9EBA1) 15, t := 44 }) ∧
  (encode .step44 = .uop 0xAC ∧ ∀ s : State, exec .step44 s = .next { s with
    A := rotl32 (s.A + roundH s.B s.C s.D + s.X 3 + 0x6ED9EBA1) 3, t := 45 }) ∧
  (encode .step45 = .uop 0xAD ∧ ∀ s : State, exec .step45 s = .next { s with
    D := rotl32 (s.D + roundH s.A s.B s.C + s.X 11 + 0x6ED9EBA1) 9, t := 46 }) ∧
  (encode .step46 = .uop 0xAE ∧ ∀ s : State, exec .step46 s = .next { s with
    C := rotl32 (s.C + roundH s.D s.A s.B + s.X 7 + 0x6ED9EBA1) 11, t := 47 }) ∧
  (encode .step47 = .uop 0xAF ∧ ∀ s : State, exec .step47 s = .next { s with
    B := rotl32 (s.B + roundH s.C s.D s.A + s.X 15 + 0x6ED9EBA1) 15, engPhase := .add, t := 0 })

/-- The general step rule (42_compression_engine.md R135) with the tables of R132 to R134: one formula for all forty-eight steps. -/
def Obligations.EveryStepIsAnInstanceOfTheGeneralRule : Prop :=
  (∀ s : State, s.err = false → s.engPhase = .run → nextUop s = some (stepCode s.t)) ∧
  ∀ (s : State) (t : BitVec 6) (i : Instr), t < 48 → decodeUop (stepCode t) = .ok i →
    let r := t.toNat / 16
    let j := t.toNat % 4
    let v := rotl32 (s.getReg (tgt j) +
      roundFn r (s.getReg (ops j).1) (s.getReg (ops j).2.1) (s.getReg (ops j).2.2) +
      s.X (kidx r (t.toNat % 16)) + roundK r) (rotAmount r j)
    (stepCode t).toNat = 0x80 + t.toNat ∧ encode i = .uop (stepCode t) ∧
    exec i s = .next (if t = 47 then { s.setReg (tgt j) v with engPhase := .add, t := 0 }
      else { s.setReg (tgt j) v with t := t + 1 }) ∧
    exec i s = .next (s.stepByTables t)

/-- `ENG.COMBINE` (42_compression_engine.md R188): encoding, selection, effect, flag. -/
def Obligations.EngCombineAddsTheSavedState : Prop :=
  encode .engCombine = .uop 0xB0 ∧
  (∀ s : State, s.t < 48 → (nextUop s = some 0xB0 ↔ s.err = false ∧ s.engPhase = .add)) ∧
  (∀ s : State, exec .engCombine s = .next { s with
    A := s.A + s.AA, B := s.B + s.BB, C := s.C + s.CC, D := s.D + s.DD, BLK := [], fill := 0, engPhase := .idle }) ∧
  (∀ s u : State, s.err = false → s.digValid = false → exec .engCombine s = .next u →
    (u.busy = true ↔ s.padPhase ≠ .msg))

/-- `SER.LATCH` (43_digest_serializer.md R200): encoding, selection, effect, flags. -/
def Obligations.SerLatchStoresTheDigest : Prop :=
  encode .serLatch = .uop 0xC0 ∧
  (∀ s : State, nextUop s = some 0xC0 ↔
    s.err = false ∧ s.padPhase = .done ∧ s.digValid = false ∧ s.engPhase = .idle ∧ s.fill ≠ 64) ∧
  (∀ s : State, s.DG.wf 16 = true → ∃ u : State, exec .serLatch s = .next u ∧
    u = { s with DG := u.DG, digValid := true } ∧ u.DG.wf 16 = true ∧
    (∀ j < 4, u.DG.read j = byteOf s.A j ∧ u.DG.read (4 + j) = byteOf s.B j ∧
      u.DG.read (8 + j) = byteOf s.C j ∧ u.DG.read (12 + j) = byteOf s.D j) ∧
    ∀ a, 16 ≤ a → u.DG.read a = s.DG.read a) ∧
  (∀ s u : State, s.err = false → s.padPhase = .done → s.engPhase = .idle → s.fill ≠ 64 →
    exec .serLatch s = .next u → u.digValid = true ∧ u.busy = false ∧ u.cmdReady = true)

/-- Where an operation has no meaning, it stops by name: a full buffer (93_implementation_defined.md U3; log 6), a step index of 48
or more (U2; log 7), and index operands no command word holds (log 15). The model's choices; no run from reset gets there. -/
def Obligations.StopsOutsideTheSpec : Prop :=
  (∀ (s : State) (b : Byte), s.padPhase = .msg → 64 ≤ s.fill.toNat → exec (.data b) s = .refused .bufferFull) ∧
  (∀ s : State, 64 ≤ s.fill.toNat → exec .padMark s = .refused .bufferFull ∧
    exec .padZero s = .refused .bufferFull ∧ exec .padLen s = .refused .bufferFull) ∧
  (∀ (s : State) (i : Nat), 16 ≤ i → exec (.rdd i) s = .refused .operandRange) ∧
  (∀ (s : State) (i : Nat) (u : Bool), 32 ≤ i → exec (.rdh i u) s = .refused .operandRange) ∧
  (∀ s : State, s.host.head? ≠ some .reset → s.err = false → s.engPhase = .run → 48 ≤ s.t →
    step s = .refused .noSuchStep)

/-- The sequencer state `(pad_phase, len_idx, eng_phase, t)` moves only as the table of 10_state.md R31 says; its values there are
stated with each operation, those of reset, INIT and the steps here. -/
def Obligations.SequencerStateMovesOnlyAsListed : Prop :=
  ∀ (i : Instr) (s u : State), exec i s = .next u →
    (u.padPhase ≠ s.padPhase → i = .init ∨ i = .final ∨ i = .padMark ∨ i = .padZero ∨ i = .padLen) ∧
    (u.lenIdx ≠ s.lenIdx → i = .init ∨ i = .padLen) ∧
    (u.engPhase ≠ s.engPhase → i = .init ∨ i = .engSave ∨ i = .step47 ∨ i = .engCombine) ∧
    (u.t ≠ s.t → i = .init ∨ i = .engSave ∨ (stepIndex i).isSome = true) ∧
    (∀ n, stepIndex i = some n → u.t = if n = 47 then 0 else n + 1)

/-- The writers of A, B, C, D and of AA, BB, CC, DD (10_state.md R20, R21, R22). -/
def Obligations.RegistersChangeOnlyByTheirWriters : Prop :=
  ∀ (i : Instr) (s u : State), exec i s = .next u →
    (u.A ≠ s.A → i = .init ∨ i = .engCombine ∨ ∃ n, stepIndex i = some n ∧ n.extractLsb' 0 2 = 0) ∧
    (u.D ≠ s.D → i = .init ∨ i = .engCombine ∨ ∃ n, stepIndex i = some n ∧ n.extractLsb' 0 2 = 1) ∧
    (u.C ≠ s.C → i = .init ∨ i = .engCombine ∨ ∃ n, stepIndex i = some n ∧ n.extractLsb' 0 2 = 2) ∧
    (u.B ≠ s.B → i = .init ∨ i = .engCombine ∨ ∃ n, stepIndex i = some n ∧ n.extractLsb' 0 2 = 3) ∧
    (u.AA ≠ s.AA ∨ u.BB ≠ s.BB ∨ u.CC ≠ s.CC ∨ u.DD ≠ s.DD → i = .init ∨ i = .engSave)

/-- The writers of the other elements (10_state.md R20): `BLK`, `fill`, `pos`, `bitlen`, `DG`, `dig_valid`, `err`, `err_code`. -/
def Obligations.BuffersChangeOnlyByTheirWriters : Prop :=
  ∀ (i : Instr) (s u : State), exec i s = .next u →
    (u.BLK ≠ s.BLK ∨ u.fill ≠ s.fill →
      (∃ b, i = .data b) ∨ i = .padMark ∨ i = .padZero ∨ i = .padLen ∨ i = .engCombine ∨ i = .init) ∧
    (u.pos ≠ s.pos → (∃ b, i = .data b) ∨ i = .padMark ∨ i = .padZero ∨ i = .padLen ∨ i = .init) ∧
    (u.bitlen ≠ s.bitlen → (∃ b, i = .data b) ∨ i = .init) ∧
    (u.DG ≠ s.DG ∨ u.digValid ≠ s.digValid → i = .serLatch ∨ i = .init) ∧
    (u.err ≠ s.err ∨ u.errCode ≠ s.errCode →
      (∃ b, i = .data b) ∨ i = .final ∨ (∃ n, i = .rdd n) ∨ ∃ n c, i = .rdh n c) ∧
    u.host = s.host

/-- The frame of the storing operations: the address stored to is `fill`, and every other byte of `BLK` and all of `DG` read as
before (20_memory.md R62, 40_padder.md R101). -/
def Obligations.EmittersStoreOneByteAtFill : Prop :=
  ∀ s u : State, s.BLK.wf 64 = true →
    (∀ b, s.padPhase = .msg → exec (.data b) s = .next u →
      ∀ a, u.BLK.read a = (if a = s.fill.toNat then b else s.BLK.read a) ∧ u.DG = s.DG) ∧
    (exec .padMark s = .next u →
      ∀ a, u.BLK.read a = (if a = s.fill.toNat then 0x80 else s.BLK.read a) ∧ u.DG = s.DG) ∧
    (exec .padZero s = .next u →
      ∀ a, u.BLK.read a = (if a = s.fill.toNat then 0x00 else s.BLK.read a) ∧ u.DG = s.DG) ∧
    (exec .padLen s = .next u →
      ∀ a, u.BLK.read a = (if a = s.fill.toNat then s.bitlen.extractLsb' (8 * s.lenIdx.toNat) 8 else s.BLK.read a) ∧
        u.DG = s.DG)

/-- Fault entry (60_exceptions.md R245): two writes and nothing else; what the outputs become. -/
def Obligations.FaultEntryWritesOnlyErrAndCode : Prop :=
  ∀ (s : State) (c : Cause),
    s.raiseFault c = { s with err := true, errCode := c.code, rsp := none } ∧
    (s.raiseFault c).outputs = {
      cmdReady := false, busy := false, digValid := s.digValid, fault := true
      errCode := c.code, digest := s.digest, rsp := none }

/-- The three causes and nothing else (60_exceptions.md R240): a step faults exactly when the ready core accepts a word that meets
one of them. -/
def Obligations.FaultsComeOnlyFromAccept : Prop :=
  ∀ s u : State, s.err = false → step s = .next u →
    (u.err = true ↔ s.cmdReady = true ∧ ∃ w, presented s.host = some w ∧
      ((∃ e, decodeCmd w = .error e) ∨
       (((∃ b, decodeCmd w = .ok (.data b)) ∨ decodeCmd w = .ok .final) ∧ s.padPhase ≠ .msg) ∨
       (((∃ i, decodeCmd w = .ok (.rdd i)) ∨ ∃ i c, decodeCmd w = .ok (.rdh i c)) ∧ s.digValid = false))) ∧
    (u.err = true → ∀ w, presented s.host = some w →
      u = { s with err := true, errCode := u.errCode, host := s.host.tail, rsp := none } ∧
      ((∃ e, decodeCmd w = .error e) → u.errCode = 1) ∧
      ((∃ b, decodeCmd w = .ok (.data b)) ∨ decodeCmd w = .ok .final → u.errCode = 2) ∧
      ((∃ i, decodeCmd w = .ok (.rdd i)) ∨ (∃ i c, decodeCmd w = .ok (.rdh i c)) → u.errCode = 3))

/-- The faulted state is frozen, and only a reset leaves it (60_exceptions.md R246, R247). -/
def Obligations.OnlyResetLeavesTheFaultedState : Prop :=
  ∀ s : State, s.err = true →
    (nextUop s = none ∧ s.busy = false ∧ s.cmdReady = false) ∧
    (∀ u, step s = .next u →
      (∃ rest, s.host = .reset :: rest ∧ u = { State.reset with host := rest }) ∨
      (s.host.head? ≠ some .reset ∧ u = { s with host := s.host.tail, rsp := none })) ∧
    (∀ rest, s.host = .reset :: rest → step s = .next { State.reset with host := rest })

/-- The hardware reset (70_reset_and_hazards.md R270): whatever the state, every element takes its reset value; the outputs after it;
and a following INIT changes nothing. -/
def Obligations.ResetOverridesEverything : Prop :=
  (∀ (s : State) (rest : List HostAct), s.host = .reset :: rest → step s = .next {
    A := 0x67452301, B := 0xefcdab89, C := 0x98badcfe, D := 0x10325476
    AA := 0, BB := 0, CC := 0, DD := 0, engPhase := .idle, t := 0, BLK := [], fill := 0
    padPhase := .msg, pos := 0, lenIdx := 0, bitlen := 0, DG := [], digValid := false
    err := false, errCode := 0, host := rest, rsp := none }) ∧
  (∀ a, State.reset.BLK.read a = 0 ∧ State.reset.DG.read a = 0) ∧
  State.reset.outputs = {
    cmdReady := true, busy := false, digValid := false, fault := false, errCode := 0
    digest := 0, rsp := none } ∧
  exec .init State.reset = .next State.reset

/-- A word presented while the core is busy is neither accepted nor dropped, and nothing happens to the core because of it
(30_encoding.md R86). -/
def Obligations.HeldWordHasNoEffectWhileBusy : Prop :=
  ∀ (s u : State) (w w' : BitVec 10) (rest rest' : List HostAct), s.busy = true → s.host = .hold w :: rest →
    step s = .next u →
    u.host = .hold w :: rest ∧
    step { s with host := .hold w' :: rest' } = .next { u with host := .hold w' :: rest' } ∧
    step { s with host := .offer w' :: rest' } = .next { u with host := rest' } ∧
    step { s with host := .pause :: rest' } = .next { u with host := rest' } ∧
    step { s with host := [] } = .next { u with host := [] }

/-- A ready core to which no command is transferred does not change (44_host_commands.md R225). -/
def Obligations.IdleReadyCoreWaits : Prop :=
  ∀ s : State, s.cmdReady = true →
    (s.host = [] → step s = .next { s with rsp := none }) ∧
    (∀ rest, s.host = .pause :: rest → step s = .next { s with host := rest, rsp := none })

/-- The states in which nothing is selected, and the two ready states (30_encoding.md R85 (b), R86, 44_host_commands.md R224). -/
def Obligations.ReadyStatesAreOpenOrFinished : Prop :=
  ∀ s : State, Invariants s →
    (s.cmdReady = true ↔ MessageOpen s ∨ Finished s) ∧
    (nextUop s = none ↔ s.err = true ∨ MessageOpen s ∨ Finished s)

/-- The selection conditions of 30_encoding.md R85, with their notes, are mutually exclusive and decide `NextUop` in any order
(log 11). -/
def Obligations.SelectionLinesAreExclusive : Prop :=
  ∀ s : State, Invariants s →
    (selectionLines s).count true ≤ 1 ∧
    (nextUop s = none ↔ (selectionLines s).count true = 0) ∧
    ∀ n < 7, (selectionLines s).getD n false = true →
      nextUop s = some ([stepCode s.t, 0xB0, 0xBF, 0x00, 0x01, 0x02, 0xC0].getD n 0)

/-- The invariants of 10_state.md R36 hold right after reset, whatever the host does next. I15 is the model's reading (log 11), the
canonical form of the arrays the model's choice (log 9). -/
def Obligations.ResetStateMeetsTheInvariants : Prop :=
  ∀ h : List HostAct, Invariants { State.reset with host := h }

/-- The invariants of 10_state.md R36 are inductive: every step keeps them, from every state that meets them. I15 is the model's
reading (log 11), the canonical form of the arrays the model's choice (log 9). -/
def Obligations.StepKeepsTheInvariants : Prop :=
  ∀ s u : State, Invariants s → step s = .next u → Invariants u

/-- 10_state.md R36 in the model's reading: in every state that a run from reset reaches, whatever the host does, I1 to I15 hold,
I15 with the notes of 30_encoding.md R85 (log 11), and the arrays are in the model's canonical form (log 9). -/
def Obligations.ReachableStatesMeetTheInvariants : Prop :=
  ∀ (h : List HostAct) (k : Nat) (u : State), Sys2Proof.core.run k { State.reset with host := h } = .next u → Invariants u

/-- No step is refused, and a step stops only in the faulted state with no reset to come, under a named cause (00_scope.md R13,
60_exceptions.md R246; log 5). -/
def Obligations.EveryStepHasARule : Prop :=
  ∀ s : State, Invariants s →
    (∃ u, step s = .next u) ∨
    (s.err = true ∧ HostQuiet s ∧ ∃ f, step s = .fault f ∧ f ≠ .noCause)

/-- The Block as one transition (42_compression_engine.md R190): the fifty micro-operations of a Block compute `Compress`, and what
they do to the rest of the state. -/
def Obligations.BlockRunComputesCompress : Prop :=
  ∀ s : State, s.err = false → s.engPhase = .idle → s.fill = 64 → HostQuiet s →
    let q := compress ⟨s.A, s.B, s.C, s.D⟩ ((List.range 16).map s.X)
    Sys2Proof.core.run 50 s = .next { s with
      A := q.A, B := q.B, C := q.C, D := q.D, AA := s.A, BB := s.B, CC := s.C, DD := s.D
      BLK := [], fill := 0, engPhase := .idle, t := 0, rsp := none }

/-- Progress (70_reset_and_hazards.md R285): busy ends by itself, within 50 steps while a message is open and 173 after FINAL. -/
def Obligations.BusyEndsWithinTheBound : Prop :=
  ∀ s : State, Invariants s → HostQuiet s → s.busy = true →
    ∃ (k : Nat) (u : State), k ≤ (if s.padPhase = .msg then 50 else 173) ∧
      Sys2Proof.core.run k s = .next u ∧ u.busy = false ∧ u.cmdReady = true ∧ u.host = s.host

/-- The number of micro-operations after FINAL (70_reset_and_hazards.md R290, 44_host_commands.md R218), from every open message. -/
def Obligations.FinalTakesTheListedOperations : Prop :=
  ∀ s : State, Invariants s → MessageOpen s → s.host = [sends .final] →
    let n := 1 + padZeros s.pos.toNat + 8 + 50 * (if s.pos.toNat ≤ 55 then 1 else 2) + 1
    (∀ k, 1 ≤ k → k ≤ n → ∃ u, Sys2Proof.core.run k s = .next u ∧ u.busy = true) ∧
    ∃ u, Sys2Proof.core.run (n + 1) s = .next u ∧ u.busy = false ∧ u.digValid = true ∧ u.cmdReady = true ∧ u.host = []

/-- What the machine computes (44_host_commands.md R230) with the operation count of 70_reset_and_hazards.md R290: for every message,
sent from reset or with INIT from any ready state. -/
def Obligations.WholeMessageYieldsItsDigest : Prop :=
  ∀ M : List Byte,
    let n := M.length
    let ops := n + 1 + (50 * numBlocks n + padZeros n + 10)
    let Good := fun u : State => u.cmdReady = true ∧ u.digValid = true ∧ u.err = false ∧ u.host = [] ∧
      (∀ i < 16, u.DG.read i = (md4 M).getD i 0) ∧ (∀ p < 64, u.BLK.read p = 0) ∧ u.fill = 0 ∧
      u.bitlen = BitVec.ofNat 64 (8 * n) ∧
      (⟨u.A, u.B, u.C, u.D⟩ : DigestState) = finalState M ∧
      (∀ i < 16, exec (.rdd i) u = .next { u with rsp := some ((md4 M).getD i 0) }) ∧
      (∀ i < 32, ∀ c, exec (.rdh i c) u = .next { u with rsp := some ((md4hex M c).getD i 0) })
    (∃ u, Sys2Proof.core.run ops { State.reset with host := hostOf (msgx M ++ [.final]) } = .next u ∧ Good u) ∧
    (∀ s : State, Invariants s → s.cmdReady = true → s.host = hostOf (hashOf M) →
      ∃ u, Sys2Proof.core.run (1 + ops) s = .next u ∧ Good u)

/-- Input retention (70_reset_and_hazards.md R282): `BLK`, the only place message bytes are stored, reads zero whenever the core is
idle after FINAL, and after ENG.COMBINE, INIT and reset. -/
def Obligations.NoMessageByteIsRetained : Prop :=
  (∀ s : State, Invariants s → s.padPhase = .done → s.busy = false → ∀ p < 64, s.BLK.read p = 0) ∧
  (∀ s u : State, exec .engCombine s = .next u ∨ exec .init s = .next u → ∀ p, u.BLK.read p = 0) ∧
  (∀ (s u : State) (rest : List HostAct), s.host = .reset :: rest → step s = .next u → ∀ p, u.BLK.read p = 0)

/-- The properties of the hex rendering (43_digest_serializer.md R205). -/
def Obligations.HexRenderingIsHexadecimal : Prop :=
  (∀ (M : List Byte) (u : Bool), (md4hex M u).length = 32) ∧
  (∀ (dg : Memory) (i : Nat) (u : Bool),
    (0x30 ≤ hexChar dg i u ∧ hexChar dg i u ≤ 0x39) ∨
    (u = false ∧ 0x61 ≤ hexChar dg i u ∧ hexChar dg i u ≤ 0x66) ∨
    (u = true ∧ 0x41 ≤ hexChar dg i u ∧ hexChar dg i u ≤ 0x46)) ∧
  (∀ (dg : Memory) (i : Nat),
    (10 ≤ hexNibble dg i → hexChar dg i true = hexChar dg i false - 0x20) ∧
    (hexNibble dg i ≤ 9 → hexChar dg i true = hexChar dg i false)) ∧
  (∀ M : List Byte, md4hex M true =
    (md4hex M false).map fun c => if 0x61 ≤ c ∧ c ≤ 0x66 then c - 0x20 else c)

/-- The parallel output (43_digest_serializer.md R206). -/
def Obligations.ParallelOutputCarriesTheDigest : Prop :=
  (∀ (s : State) (i : Nat), i < 16 → s.digest.extractLsb' (8 * i) 8 = s.DG.read i) ∧
  (∀ s : State, Invariants s → s.digValid = false → s.digest = 0)

/-- The padding (40_padder.md R100): its form, its length, and the count of zero bytes. -/
def Obligations.PaddedLengthIsTheSmallestMultiple : Prop :=
  ∀ M : List Byte,
    let n := M.length
    let z := padZeros n
    pad M = M ++ [0x80] ++ zeros z ++ le64bytes (BitVec.ofNat 64 (8 * n)) ∧
    z ≤ 63 ∧ (n + z) % 64 = 55 ∧
    (pad M).length = n + 1 + z + 8 ∧ (pad M).length % 64 = 0 ∧ n + 9 ≤ (pad M).length ∧
    (∀ L, L % 64 = 0 → n + 9 ≤ L → (pad M).length ≤ L) ∧
    (pad M).length = 64 * numBlocks n ∧ numBlocks n = n / 64 + 1 + (if 56 ≤ n % 64 then 1 else 0)

/-- Isolation: which operation comes next, and when the outputs change, does not depend on the message bytes, the Digest State or
the digest; before a digest is valid the host sees nothing of them (10_state.md R31, R35). -/
def Obligations.ControlDoesNotDependOnTheData : Prop :=
  (∀ s s' u : State, s.control = s'.control → step s = .next u →
    ∃ u', step s' = .next u' ∧ u.control = u'.control) ∧
  (∀ s s' : State, Invariants s → Invariants s' → s.control = s'.control → s.digValid = false →
    { s.outputs with rsp := none } = { s'.outputs with rsp := none })
end

