-- ==== Sys2Proof/Laws/Memory.lean ====
section
/-! SUPPORT. The laws of the byte arrays `BLK` and `DG`: a write is read back, it leaves every other byte alone, and every
operation keeps the canonical form. -/

namespace Sys2Proof.Machine

@[simp] theorem Memory.read_nil (a : Nat) : Memory.read [] a = 0 := rfl

@[simp] theorem Memory.read_clear (a : Nat) : Memory.clear.read a = 0 := rfl

@[simp] theorem Memory.clear_wf (size : Nat) : Memory.clear.wf size = true := rfl

theorem Memory.wf_cons {size k : Nat} {v : Byte} {m : Memory} :
    Memory.wf size ((k, v) :: m) = true ↔
      k < size ∧ v ≠ 0 ∧ (∀ c ∈ m, k < c.1) ∧ Memory.wf size m = true := by
  simp only [Memory.wf, Bool.and_eq_true, decide_eq_true_eq, List.all_eq_true, and_assoc]
  exact Iff.rfl

/-- An address below every listed one is not listed. -/
theorem Memory.read_of_lt {m : Memory} {a : Nat} (h : ∀ c ∈ m, a < c.1) : m.read a = 0 := by
  induction m with
  | nil => rfl
  | cons c m ih =>
    obtain ⟨k, v⟩ := c
    have hk : a < k := h (k, v) (by simp)
    have hr : Memory.read m a = 0 := ih fun c hc => h c (by simp [hc])
    simp [Memory.read, hr, Nat.ne_of_gt hk]

/-- Every listed address stays listed or is the one written. -/
theorem Memory.mem_write {m : Memory} {a : Nat} {b : Byte} {c : Host.Cell} (h : c ∈ m.write a b) :
    c.1 = a ∨ c ∈ m := by
  induction m with
  | nil =>
    simp only [Memory.write] at h
    split at h <;> simp_all
  | cons d m ih =>
    obtain ⟨k, v⟩ := d
    simp only [Memory.write] at h
    split at h
    · split at h
      · exact Or.inr h
      · rcases List.mem_cons.1 h with rfl | h
        · exact Or.inl rfl
        · exact Or.inr h
    · split at h
      · split at h
        · exact Or.inr (List.mem_cons_of_mem _ h)
        · rcases List.mem_cons.1 h with rfl | h
          · exact Or.inl rfl
          · exact Or.inr (List.mem_cons_of_mem _ h)
      · rcases List.mem_cons.1 h with rfl | hm
        · simp
        · rcases ih hm with h' | h'
          · exact Or.inl h'
          · exact Or.inr (List.mem_cons_of_mem _ h')

/-- A write below the size of the array keeps the canonical form. -/
theorem Memory.write_wf {size : Nat} {m : Memory} {a : Nat} {b : Byte} (ha : a < size) (h : m.wf size = true) :
    (m.write a b).wf size = true := by
  induction m with
  | nil =>
    simp only [Memory.write]
    split
    · rfl
    · next hb => simpa [Memory.wf, ha] using hb
  | cons d m ih =>
    obtain ⟨k, v⟩ := d
    obtain ⟨hk, hv, hlt, hm⟩ := Memory.wf_cons.1 h
    simp only [Memory.write]
    split
    · next hak =>
      split
      · exact h
      · next hb =>
        refine Memory.wf_cons.2 ⟨ha, hb, ?_, h⟩
        intro c hc
        rcases List.mem_cons.1 hc with rfl | hc
        · exact hak
        · exact hak.trans (hlt c hc)
    · split
      · next hak =>
        subst hak
        split
        · exact hm
        · next hb => exact Memory.wf_cons.2 ⟨ha, hb, hlt, hm⟩
      · refine Memory.wf_cons.2 ⟨hk, hv, ?_, ih hm⟩
        intro c hc
        rcases Memory.mem_write hc with h' | h'
        · omega
        · exact hlt c h'

/-- What a byte reads as after a write: the byte written at its address, and every other byte as before. -/
theorem Memory.read_write {size : Nat} {m : Memory} (h : m.wf size = true) (a : Nat) (b : Byte) (c : Nat) :
    (m.write a b).read c = if c = a then b else m.read c := by
  induction m with
  | nil =>
    simp only [Memory.write]
    split
    · next hb =>
      by_cases hc : c = a
      · rw [if_pos hc]
        exact hb.symm
      · rw [if_neg hc]
    · by_cases hc : c = a
      · simp [Memory.read, hc]
      · simp only [Memory.read, if_neg (Ne.symm hc), if_neg hc]
  | cons d m ih =>
    obtain ⟨k, v⟩ := d
    obtain ⟨-, -, hlt, hm⟩ := Memory.wf_cons.1 h
    simp only [Memory.write]
    split
    · next hak =>
      have hall : ∀ e ∈ ((k, v) :: m : Memory), a < e.1 := by
        intro e he
        rcases List.mem_cons.1 he with rfl | he
        · exact hak
        · exact hak.trans (hlt e he)
      split
      · next hb =>
        by_cases hc : c = a
        · subst hc
          rw [if_pos rfl, Memory.read_of_lt hall]
          exact hb.symm
        · rw [if_neg hc]
      · by_cases hc : c = a
        · simp [Memory.read, hc]
        · simp only [Memory.read, if_neg (Ne.symm hc), if_neg hc]
    · split
      · next hak =>
        subst hak
        split
        · next hb =>
          by_cases hc : c = a
          · subst hc
            rw [if_pos rfl, Memory.read_of_lt hlt]
            exact hb.symm
          · simp only [Memory.read, if_neg (Ne.symm hc), if_neg hc]
        · by_cases hc : c = a
          · simp [Memory.read, hc]
          · simp only [Memory.read, if_neg (Ne.symm hc), if_neg hc]
      · next hak =>
        by_cases hc : k = c
        · subst hc
          simp only [Memory.read, if_pos, if_neg (Ne.symm hak)]
        · simp only [Memory.read, if_neg hc, ih hm]

/-- Writing a sequence of bytes that ends below the size of the array keeps the canonical form. -/
theorem Memory.writeBytes_wf {size : Nat} (bs : List Byte) : ∀ {m : Memory} {a : Nat}, a + bs.length ≤ size →
    m.wf size = true → (m.writeBytes a bs).wf size = true := by
  induction bs with
  | nil => exact fun _ h => h
  | cons b bs ih =>
    intro m a ha h
    simp only [List.length_cons] at ha
    exact ih (by omega) (Memory.write_wf (by omega) h)

/-- What a byte reads as after a sequence of bytes is written from address `a` on. -/
theorem Memory.read_writeBytes {size : Nat} (bs : List Byte) : ∀ {m : Memory} {a : Nat}, a + bs.length ≤ size →
    m.wf size = true → ∀ c, (m.writeBytes a bs).read c =
      if a ≤ c ∧ c < a + bs.length then bs.getD (c - a) 0 else m.read c := by
  induction bs with
  | nil =>
    intro m a _ _ c
    rw [if_neg (by simp only [List.length_nil]; omega)]
    rfl
  | cons b bs ih =>
    intro m a ha h c
    simp only [List.length_cons] at ha
    simp only [Memory.writeBytes]
    rw [ih (by omega) (Memory.write_wf (by omega) h), Memory.read_write h]
    simp only [List.length_cons]
    by_cases h1 : c = a
    · subst h1
      rw [if_neg (by omega), if_pos rfl, if_pos (by omega)]
      simp
    · by_cases h2 : a + 1 ≤ c ∧ c < a + 1 + bs.length
      · rw [if_pos h2, if_pos (by omega), show c - a = (c - (a + 1)) + 1 by omega]
        simp
      · rw [if_neg h2, if_neg h1, if_neg (by omega)]

end Sys2Proof.Machine
end

