-- ==== Sys2Proof/Laws/State.lean ====
section
/-! SUPPORT. What each field of the state reads as after each of the named updates of Machine/Ops.lean, Machine/Operands.lean and
Machine/Port.lean. -/

namespace Sys2Proof.Machine

/-! ### `State.schedPut` -/

@[simp] theorem State.schedPut_A (s : State) (b : Byte) : (s.schedPut b).A = s.A := rfl
@[simp] theorem State.schedPut_B (s : State) (b : Byte) : (s.schedPut b).B = s.B := rfl
@[simp] theorem State.schedPut_C (s : State) (b : Byte) : (s.schedPut b).C = s.C := rfl
@[simp] theorem State.schedPut_D (s : State) (b : Byte) : (s.schedPut b).D = s.D := rfl
@[simp] theorem State.schedPut_AA (s : State) (b : Byte) : (s.schedPut b).AA = s.AA := rfl
@[simp] theorem State.schedPut_BB (s : State) (b : Byte) : (s.schedPut b).BB = s.BB := rfl
@[simp] theorem State.schedPut_CC (s : State) (b : Byte) : (s.schedPut b).CC = s.CC := rfl
@[simp] theorem State.schedPut_DD (s : State) (b : Byte) : (s.schedPut b).DD = s.DD := rfl
@[simp] theorem State.schedPut_engPhase (s : State) (b : Byte) : (s.schedPut b).engPhase = s.engPhase := rfl
@[simp] theorem State.schedPut_t (s : State) (b : Byte) : (s.schedPut b).t = s.t := rfl
@[simp] theorem State.schedPut_BLK (s : State) (b : Byte) : (s.schedPut b).BLK = s.BLK.write s.fill.toNat b := rfl
@[simp] theorem State.schedPut_fill (s : State) (b : Byte) : (s.schedPut b).fill = s.fill + 1 := rfl
@[simp] theorem State.schedPut_padPhase (s : State) (b : Byte) : (s.schedPut b).padPhase = s.padPhase := rfl
@[simp] theorem State.schedPut_pos (s : State) (b : Byte) : (s.schedPut b).pos = s.pos := rfl
@[simp] theorem State.schedPut_lenIdx (s : State) (b : Byte) : (s.schedPut b).lenIdx = s.lenIdx := rfl
@[simp] theorem State.schedPut_bitlen (s : State) (b : Byte) : (s.schedPut b).bitlen = s.bitlen := rfl
@[simp] theorem State.schedPut_DG (s : State) (b : Byte) : (s.schedPut b).DG = s.DG := rfl
@[simp] theorem State.schedPut_digValid (s : State) (b : Byte) : (s.schedPut b).digValid = s.digValid := rfl
@[simp] theorem State.schedPut_err (s : State) (b : Byte) : (s.schedPut b).err = s.err := rfl
@[simp] theorem State.schedPut_errCode (s : State) (b : Byte) : (s.schedPut b).errCode = s.errCode := rfl
@[simp] theorem State.schedPut_host (s : State) (b : Byte) : (s.schedPut b).host = s.host := rfl
@[simp] theorem State.schedPut_rsp (s : State) (b : Byte) : (s.schedPut b).rsp = s.rsp := rfl

/-! ### `State.schedClear` -/

@[simp] theorem State.schedClear_A (s : State) : (s.schedClear).A = s.A := rfl
@[simp] theorem State.schedClear_B (s : State) : (s.schedClear).B = s.B := rfl
@[simp] theorem State.schedClear_C (s : State) : (s.schedClear).C = s.C := rfl
@[simp] theorem State.schedClear_D (s : State) : (s.schedClear).D = s.D := rfl
@[simp] theorem State.schedClear_AA (s : State) : (s.schedClear).AA = s.AA := rfl
@[simp] theorem State.schedClear_BB (s : State) : (s.schedClear).BB = s.BB := rfl
@[simp] theorem State.schedClear_CC (s : State) : (s.schedClear).CC = s.CC := rfl
@[simp] theorem State.schedClear_DD (s : State) : (s.schedClear).DD = s.DD := rfl
@[simp] theorem State.schedClear_engPhase (s : State) : (s.schedClear).engPhase = s.engPhase := rfl
@[simp] theorem State.schedClear_t (s : State) : (s.schedClear).t = s.t := rfl
@[simp] theorem State.schedClear_BLK (s : State) : (s.schedClear).BLK = Memory.clear := rfl
@[simp] theorem State.schedClear_fill (s : State) : (s.schedClear).fill = 0 := rfl
@[simp] theorem State.schedClear_padPhase (s : State) : (s.schedClear).padPhase = s.padPhase := rfl
@[simp] theorem State.schedClear_pos (s : State) : (s.schedClear).pos = s.pos := rfl
@[simp] theorem State.schedClear_lenIdx (s : State) : (s.schedClear).lenIdx = s.lenIdx := rfl
@[simp] theorem State.schedClear_bitlen (s : State) : (s.schedClear).bitlen = s.bitlen := rfl
@[simp] theorem State.schedClear_DG (s : State) : (s.schedClear).DG = s.DG := rfl
@[simp] theorem State.schedClear_digValid (s : State) : (s.schedClear).digValid = s.digValid := rfl
@[simp] theorem State.schedClear_err (s : State) : (s.schedClear).err = s.err := rfl
@[simp] theorem State.schedClear_errCode (s : State) : (s.schedClear).errCode = s.errCode := rfl
@[simp] theorem State.schedClear_host (s : State) : (s.schedClear).host = s.host := rfl
@[simp] theorem State.schedClear_rsp (s : State) : (s.schedClear).rsp = s.rsp := rfl

/-! ### `State.padEmit` -/

@[simp] theorem State.padEmit_A (s : State) (b : Byte) : (s.padEmit b).A = s.A := rfl
@[simp] theorem State.padEmit_B (s : State) (b : Byte) : (s.padEmit b).B = s.B := rfl
@[simp] theorem State.padEmit_C (s : State) (b : Byte) : (s.padEmit b).C = s.C := rfl
@[simp] theorem State.padEmit_D (s : State) (b : Byte) : (s.padEmit b).D = s.D := rfl
@[simp] theorem State.padEmit_AA (s : State) (b : Byte) : (s.padEmit b).AA = s.AA := rfl
@[simp] theorem State.padEmit_BB (s : State) (b : Byte) : (s.padEmit b).BB = s.BB := rfl
@[simp] theorem State.padEmit_CC (s : State) (b : Byte) : (s.padEmit b).CC = s.CC := rfl
@[simp] theorem State.padEmit_DD (s : State) (b : Byte) : (s.padEmit b).DD = s.DD := rfl
@[simp] theorem State.padEmit_engPhase (s : State) (b : Byte) : (s.padEmit b).engPhase = s.engPhase := rfl
@[simp] theorem State.padEmit_t (s : State) (b : Byte) : (s.padEmit b).t = s.t := rfl
@[simp] theorem State.padEmit_BLK (s : State) (b : Byte) : (s.padEmit b).BLK = s.BLK.write s.fill.toNat b := rfl
@[simp] theorem State.padEmit_fill (s : State) (b : Byte) : (s.padEmit b).fill = s.fill + 1 := rfl
@[simp] theorem State.padEmit_padPhase (s : State) (b : Byte) : (s.padEmit b).padPhase = s.padPhase := rfl
@[simp] theorem State.padEmit_pos (s : State) (b : Byte) : (s.padEmit b).pos = s.pos + 1 := rfl
@[simp] theorem State.padEmit_lenIdx (s : State) (b : Byte) : (s.padEmit b).lenIdx = s.lenIdx := rfl
@[simp] theorem State.padEmit_bitlen (s : State) (b : Byte) : (s.padEmit b).bitlen = s.bitlen := rfl
@[simp] theorem State.padEmit_DG (s : State) (b : Byte) : (s.padEmit b).DG = s.DG := rfl
@[simp] theorem State.padEmit_digValid (s : State) (b : Byte) : (s.padEmit b).digValid = s.digValid := rfl
@[simp] theorem State.padEmit_err (s : State) (b : Byte) : (s.padEmit b).err = s.err := rfl
@[simp] theorem State.padEmit_errCode (s : State) (b : Byte) : (s.padEmit b).errCode = s.errCode := rfl
@[simp] theorem State.padEmit_host (s : State) (b : Byte) : (s.padEmit b).host = s.host := rfl
@[simp] theorem State.padEmit_rsp (s : State) (b : Byte) : (s.padEmit b).rsp = s.rsp := rfl

/-! ### `State.padAbsorb` -/

@[simp] theorem State.padAbsorb_A (s : State) (b : Byte) : (s.padAbsorb b).A = s.A := rfl
@[simp] theorem State.padAbsorb_B (s : State) (b : Byte) : (s.padAbsorb b).B = s.B := rfl
@[simp] theorem State.padAbsorb_C (s : State) (b : Byte) : (s.padAbsorb b).C = s.C := rfl
@[simp] theorem State.padAbsorb_D (s : State) (b : Byte) : (s.padAbsorb b).D = s.D := rfl
@[simp] theorem State.padAbsorb_AA (s : State) (b : Byte) : (s.padAbsorb b).AA = s.AA := rfl
@[simp] theorem State.padAbsorb_BB (s : State) (b : Byte) : (s.padAbsorb b).BB = s.BB := rfl
@[simp] theorem State.padAbsorb_CC (s : State) (b : Byte) : (s.padAbsorb b).CC = s.CC := rfl
@[simp] theorem State.padAbsorb_DD (s : State) (b : Byte) : (s.padAbsorb b).DD = s.DD := rfl
@[simp] theorem State.padAbsorb_engPhase (s : State) (b : Byte) : (s.padAbsorb b).engPhase = s.engPhase := rfl
@[simp] theorem State.padAbsorb_t (s : State) (b : Byte) : (s.padAbsorb b).t = s.t := rfl
@[simp] theorem State.padAbsorb_BLK (s : State) (b : Byte) : (s.padAbsorb b).BLK = s.BLK.write s.fill.toNat b := rfl
@[simp] theorem State.padAbsorb_fill (s : State) (b : Byte) : (s.padAbsorb b).fill = s.fill + 1 := rfl
@[simp] theorem State.padAbsorb_padPhase (s : State) (b : Byte) : (s.padAbsorb b).padPhase = s.padPhase := rfl
@[simp] theorem State.padAbsorb_pos (s : State) (b : Byte) : (s.padAbsorb b).pos = s.pos + 1 := rfl
@[simp] theorem State.padAbsorb_lenIdx (s : State) (b : Byte) : (s.padAbsorb b).lenIdx = s.lenIdx := rfl
@[simp] theorem State.padAbsorb_bitlen (s : State) (b : Byte) : (s.padAbsorb b).bitlen = add64 s.bitlen 8 := rfl
@[simp] theorem State.padAbsorb_DG (s : State) (b : Byte) : (s.padAbsorb b).DG = s.DG := rfl
@[simp] theorem State.padAbsorb_digValid (s : State) (b : Byte) : (s.padAbsorb b).digValid = s.digValid := rfl
@[simp] theorem State.padAbsorb_err (s : State) (b : Byte) : (s.padAbsorb b).err = s.err := rfl
@[simp] theorem State.padAbsorb_errCode (s : State) (b : Byte) : (s.padAbsorb b).errCode = s.errCode := rfl
@[simp] theorem State.padAbsorb_host (s : State) (b : Byte) : (s.padAbsorb b).host = s.host := rfl
@[simp] theorem State.padAbsorb_rsp (s : State) (b : Byte) : (s.padAbsorb b).rsp = s.rsp := rfl

/-! ### `State.padFinal` -/

@[simp] theorem State.padFinal_A (s : State) : (s.padFinal).A = s.A := rfl
@[simp] theorem State.padFinal_B (s : State) : (s.padFinal).B = s.B := rfl
@[simp] theorem State.padFinal_C (s : State) : (s.padFinal).C = s.C := rfl
@[simp] theorem State.padFinal_D (s : State) : (s.padFinal).D = s.D := rfl
@[simp] theorem State.padFinal_AA (s : State) : (s.padFinal).AA = s.AA := rfl
@[simp] theorem State.padFinal_BB (s : State) : (s.padFinal).BB = s.BB := rfl
@[simp] theorem State.padFinal_CC (s : State) : (s.padFinal).CC = s.CC := rfl
@[simp] theorem State.padFinal_DD (s : State) : (s.padFinal).DD = s.DD := rfl
@[simp] theorem State.padFinal_engPhase (s : State) : (s.padFinal).engPhase = s.engPhase := rfl
@[simp] theorem State.padFinal_t (s : State) : (s.padFinal).t = s.t := rfl
@[simp] theorem State.padFinal_BLK (s : State) : (s.padFinal).BLK = s.BLK := rfl
@[simp] theorem State.padFinal_fill (s : State) : (s.padFinal).fill = s.fill := rfl
@[simp] theorem State.padFinal_padPhase (s : State) : (s.padFinal).padPhase = .mark := rfl
@[simp] theorem State.padFinal_pos (s : State) : (s.padFinal).pos = s.pos := rfl
@[simp] theorem State.padFinal_lenIdx (s : State) : (s.padFinal).lenIdx = s.lenIdx := rfl
@[simp] theorem State.padFinal_bitlen (s : State) : (s.padFinal).bitlen = s.bitlen := rfl
@[simp] theorem State.padFinal_DG (s : State) : (s.padFinal).DG = s.DG := rfl
@[simp] theorem State.padFinal_digValid (s : State) : (s.padFinal).digValid = s.digValid := rfl
@[simp] theorem State.padFinal_err (s : State) : (s.padFinal).err = s.err := rfl
@[simp] theorem State.padFinal_errCode (s : State) : (s.padFinal).errCode = s.errCode := rfl
@[simp] theorem State.padFinal_host (s : State) : (s.padFinal).host = s.host := rfl
@[simp] theorem State.padFinal_rsp (s : State) : (s.padFinal).rsp = s.rsp := rfl

/-! ### `State.raiseFault` -/

@[simp] theorem State.raiseFault_A (s : State) (c : Cause) : (s.raiseFault c).A = s.A := rfl
@[simp] theorem State.raiseFault_B (s : State) (c : Cause) : (s.raiseFault c).B = s.B := rfl
@[simp] theorem State.raiseFault_C (s : State) (c : Cause) : (s.raiseFault c).C = s.C := rfl
@[simp] theorem State.raiseFault_D (s : State) (c : Cause) : (s.raiseFault c).D = s.D := rfl
@[simp] theorem State.raiseFault_AA (s : State) (c : Cause) : (s.raiseFault c).AA = s.AA := rfl
@[simp] theorem State.raiseFault_BB (s : State) (c : Cause) : (s.raiseFault c).BB = s.BB := rfl
@[simp] theorem State.raiseFault_CC (s : State) (c : Cause) : (s.raiseFault c).CC = s.CC := rfl
@[simp] theorem State.raiseFault_DD (s : State) (c : Cause) : (s.raiseFault c).DD = s.DD := rfl
@[simp] theorem State.raiseFault_engPhase (s : State) (c : Cause) : (s.raiseFault c).engPhase = s.engPhase := rfl
@[simp] theorem State.raiseFault_t (s : State) (c : Cause) : (s.raiseFault c).t = s.t := rfl
@[simp] theorem State.raiseFault_BLK (s : State) (c : Cause) : (s.raiseFault c).BLK = s.BLK := rfl
@[simp] theorem State.raiseFault_fill (s : State) (c : Cause) : (s.raiseFault c).fill = s.fill := rfl
@[simp] theorem State.raiseFault_padPhase (s : State) (c : Cause) : (s.raiseFault c).padPhase = s.padPhase := rfl
@[simp] theorem State.raiseFault_pos (s : State) (c : Cause) : (s.raiseFault c).pos = s.pos := rfl
@[simp] theorem State.raiseFault_lenIdx (s : State) (c : Cause) : (s.raiseFault c).lenIdx = s.lenIdx := rfl
@[simp] theorem State.raiseFault_bitlen (s : State) (c : Cause) : (s.raiseFault c).bitlen = s.bitlen := rfl
@[simp] theorem State.raiseFault_DG (s : State) (c : Cause) : (s.raiseFault c).DG = s.DG := rfl
@[simp] theorem State.raiseFault_digValid (s : State) (c : Cause) : (s.raiseFault c).digValid = s.digValid := rfl
@[simp] theorem State.raiseFault_err (s : State) (c : Cause) : (s.raiseFault c).err = true := rfl
@[simp] theorem State.raiseFault_errCode (s : State) (c : Cause) : (s.raiseFault c).errCode = c.code := rfl
@[simp] theorem State.raiseFault_host (s : State) (c : Cause) : (s.raiseFault c).host = s.host := rfl
@[simp] theorem State.raiseFault_rsp (s : State) (c : Cause) : (s.raiseFault c).rsp = none := rfl

/-! ### `State.respond` -/

@[simp] theorem State.respond_A (s : State) (b : Byte) : (s.respond b).A = s.A := rfl
@[simp] theorem State.respond_B (s : State) (b : Byte) : (s.respond b).B = s.B := rfl
@[simp] theorem State.respond_C (s : State) (b : Byte) : (s.respond b).C = s.C := rfl
@[simp] theorem State.respond_D (s : State) (b : Byte) : (s.respond b).D = s.D := rfl
@[simp] theorem State.respond_AA (s : State) (b : Byte) : (s.respond b).AA = s.AA := rfl
@[simp] theorem State.respond_BB (s : State) (b : Byte) : (s.respond b).BB = s.BB := rfl
@[simp] theorem State.respond_CC (s : State) (b : Byte) : (s.respond b).CC = s.CC := rfl
@[simp] theorem State.respond_DD (s : State) (b : Byte) : (s.respond b).DD = s.DD := rfl
@[simp] theorem State.respond_engPhase (s : State) (b : Byte) : (s.respond b).engPhase = s.engPhase := rfl
@[simp] theorem State.respond_t (s : State) (b : Byte) : (s.respond b).t = s.t := rfl
@[simp] theorem State.respond_BLK (s : State) (b : Byte) : (s.respond b).BLK = s.BLK := rfl
@[simp] theorem State.respond_fill (s : State) (b : Byte) : (s.respond b).fill = s.fill := rfl
@[simp] theorem State.respond_padPhase (s : State) (b : Byte) : (s.respond b).padPhase = s.padPhase := rfl
@[simp] theorem State.respond_pos (s : State) (b : Byte) : (s.respond b).pos = s.pos := rfl
@[simp] theorem State.respond_lenIdx (s : State) (b : Byte) : (s.respond b).lenIdx = s.lenIdx := rfl
@[simp] theorem State.respond_bitlen (s : State) (b : Byte) : (s.respond b).bitlen = s.bitlen := rfl
@[simp] theorem State.respond_DG (s : State) (b : Byte) : (s.respond b).DG = s.DG := rfl
@[simp] theorem State.respond_digValid (s : State) (b : Byte) : (s.respond b).digValid = s.digValid := rfl
@[simp] theorem State.respond_err (s : State) (b : Byte) : (s.respond b).err = s.err := rfl
@[simp] theorem State.respond_errCode (s : State) (b : Byte) : (s.respond b).errCode = s.errCode := rfl
@[simp] theorem State.respond_host (s : State) (b : Byte) : (s.respond b).host = s.host := rfl
@[simp] theorem State.respond_rsp (s : State) (b : Byte) : (s.respond b).rsp = some b := rfl

/-! ### `State.thenStep` -/

@[simp] theorem State.thenStep_A (s : State) (t : BitVec 6) : (s.thenStep t).A = s.A := rfl
@[simp] theorem State.thenStep_B (s : State) (t : BitVec 6) : (s.thenStep t).B = s.B := rfl
@[simp] theorem State.thenStep_C (s : State) (t : BitVec 6) : (s.thenStep t).C = s.C := rfl
@[simp] theorem State.thenStep_D (s : State) (t : BitVec 6) : (s.thenStep t).D = s.D := rfl
@[simp] theorem State.thenStep_AA (s : State) (t : BitVec 6) : (s.thenStep t).AA = s.AA := rfl
@[simp] theorem State.thenStep_BB (s : State) (t : BitVec 6) : (s.thenStep t).BB = s.BB := rfl
@[simp] theorem State.thenStep_CC (s : State) (t : BitVec 6) : (s.thenStep t).CC = s.CC := rfl
@[simp] theorem State.thenStep_DD (s : State) (t : BitVec 6) : (s.thenStep t).DD = s.DD := rfl
@[simp] theorem State.thenStep_engPhase (s : State) (t : BitVec 6) : (s.thenStep t).engPhase = s.engPhase := rfl
@[simp] theorem State.thenStep_t (s : State) (t : BitVec 6) : (s.thenStep t).t = t := rfl
@[simp] theorem State.thenStep_BLK (s : State) (t : BitVec 6) : (s.thenStep t).BLK = s.BLK := rfl
@[simp] theorem State.thenStep_fill (s : State) (t : BitVec 6) : (s.thenStep t).fill = s.fill := rfl
@[simp] theorem State.thenStep_padPhase (s : State) (t : BitVec 6) : (s.thenStep t).padPhase = s.padPhase := rfl
@[simp] theorem State.thenStep_pos (s : State) (t : BitVec 6) : (s.thenStep t).pos = s.pos := rfl
@[simp] theorem State.thenStep_lenIdx (s : State) (t : BitVec 6) : (s.thenStep t).lenIdx = s.lenIdx := rfl
@[simp] theorem State.thenStep_bitlen (s : State) (t : BitVec 6) : (s.thenStep t).bitlen = s.bitlen := rfl
@[simp] theorem State.thenStep_DG (s : State) (t : BitVec 6) : (s.thenStep t).DG = s.DG := rfl
@[simp] theorem State.thenStep_digValid (s : State) (t : BitVec 6) : (s.thenStep t).digValid = s.digValid := rfl
@[simp] theorem State.thenStep_err (s : State) (t : BitVec 6) : (s.thenStep t).err = s.err := rfl
@[simp] theorem State.thenStep_errCode (s : State) (t : BitVec 6) : (s.thenStep t).errCode = s.errCode := rfl
@[simp] theorem State.thenStep_host (s : State) (t : BitVec 6) : (s.thenStep t).host = s.host := rfl
@[simp] theorem State.thenStep_rsp (s : State) (t : BitVec 6) : (s.thenStep t).rsp = s.rsp := rfl

/-! ### `State.thenCombine` -/

@[simp] theorem State.thenCombine_A (s : State) : (s.thenCombine).A = s.A := rfl
@[simp] theorem State.thenCombine_B (s : State) : (s.thenCombine).B = s.B := rfl
@[simp] theorem State.thenCombine_C (s : State) : (s.thenCombine).C = s.C := rfl
@[simp] theorem State.thenCombine_D (s : State) : (s.thenCombine).D = s.D := rfl
@[simp] theorem State.thenCombine_AA (s : State) : (s.thenCombine).AA = s.AA := rfl
@[simp] theorem State.thenCombine_BB (s : State) : (s.thenCombine).BB = s.BB := rfl
@[simp] theorem State.thenCombine_CC (s : State) : (s.thenCombine).CC = s.CC := rfl
@[simp] theorem State.thenCombine_DD (s : State) : (s.thenCombine).DD = s.DD := rfl
@[simp] theorem State.thenCombine_engPhase (s : State) : (s.thenCombine).engPhase = .add := rfl
@[simp] theorem State.thenCombine_t (s : State) : (s.thenCombine).t = 0 := rfl
@[simp] theorem State.thenCombine_BLK (s : State) : (s.thenCombine).BLK = s.BLK := rfl
@[simp] theorem State.thenCombine_fill (s : State) : (s.thenCombine).fill = s.fill := rfl
@[simp] theorem State.thenCombine_padPhase (s : State) : (s.thenCombine).padPhase = s.padPhase := rfl
@[simp] theorem State.thenCombine_pos (s : State) : (s.thenCombine).pos = s.pos := rfl
@[simp] theorem State.thenCombine_lenIdx (s : State) : (s.thenCombine).lenIdx = s.lenIdx := rfl
@[simp] theorem State.thenCombine_bitlen (s : State) : (s.thenCombine).bitlen = s.bitlen := rfl
@[simp] theorem State.thenCombine_DG (s : State) : (s.thenCombine).DG = s.DG := rfl
@[simp] theorem State.thenCombine_digValid (s : State) : (s.thenCombine).digValid = s.digValid := rfl
@[simp] theorem State.thenCombine_err (s : State) : (s.thenCombine).err = s.err := rfl
@[simp] theorem State.thenCombine_errCode (s : State) : (s.thenCombine).errCode = s.errCode := rfl
@[simp] theorem State.thenCombine_host (s : State) : (s.thenCombine).host = s.host := rfl
@[simp] theorem State.thenCombine_rsp (s : State) : (s.thenCombine).rsp = s.rsp := rfl

/-! ### `State.opened` -/

@[simp] theorem State.opened_A (s : State) (h : List HostAct) : (s.opened h).A = s.A := rfl
@[simp] theorem State.opened_B (s : State) (h : List HostAct) : (s.opened h).B = s.B := rfl
@[simp] theorem State.opened_C (s : State) (h : List HostAct) : (s.opened h).C = s.C := rfl
@[simp] theorem State.opened_D (s : State) (h : List HostAct) : (s.opened h).D = s.D := rfl
@[simp] theorem State.opened_AA (s : State) (h : List HostAct) : (s.opened h).AA = s.AA := rfl
@[simp] theorem State.opened_BB (s : State) (h : List HostAct) : (s.opened h).BB = s.BB := rfl
@[simp] theorem State.opened_CC (s : State) (h : List HostAct) : (s.opened h).CC = s.CC := rfl
@[simp] theorem State.opened_DD (s : State) (h : List HostAct) : (s.opened h).DD = s.DD := rfl
@[simp] theorem State.opened_engPhase (s : State) (h : List HostAct) : (s.opened h).engPhase = s.engPhase := rfl
@[simp] theorem State.opened_t (s : State) (h : List HostAct) : (s.opened h).t = s.t := rfl
@[simp] theorem State.opened_BLK (s : State) (h : List HostAct) : (s.opened h).BLK = s.BLK := rfl
@[simp] theorem State.opened_fill (s : State) (h : List HostAct) : (s.opened h).fill = s.fill := rfl
@[simp] theorem State.opened_padPhase (s : State) (h : List HostAct) : (s.opened h).padPhase = s.padPhase := rfl
@[simp] theorem State.opened_pos (s : State) (h : List HostAct) : (s.opened h).pos = s.pos := rfl
@[simp] theorem State.opened_lenIdx (s : State) (h : List HostAct) : (s.opened h).lenIdx = s.lenIdx := rfl
@[simp] theorem State.opened_bitlen (s : State) (h : List HostAct) : (s.opened h).bitlen = s.bitlen := rfl
@[simp] theorem State.opened_DG (s : State) (h : List HostAct) : (s.opened h).DG = s.DG := rfl
@[simp] theorem State.opened_digValid (s : State) (h : List HostAct) : (s.opened h).digValid = s.digValid := rfl
@[simp] theorem State.opened_err (s : State) (h : List HostAct) : (s.opened h).err = s.err := rfl
@[simp] theorem State.opened_errCode (s : State) (h : List HostAct) : (s.opened h).errCode = s.errCode := rfl
@[simp] theorem State.opened_host (s : State) (h : List HostAct) : (s.opened h).host = h := rfl
@[simp] theorem State.opened_rsp (s : State) (h : List HostAct) : (s.opened h).rsp = none := rfl

/-! ### `State.hardReset` -/

@[simp] theorem State.hardReset_A (s : State) : s.hardReset.A = State.reset.A := rfl
@[simp] theorem State.hardReset_B (s : State) : s.hardReset.B = State.reset.B := rfl
@[simp] theorem State.hardReset_C (s : State) : s.hardReset.C = State.reset.C := rfl
@[simp] theorem State.hardReset_D (s : State) : s.hardReset.D = State.reset.D := rfl
@[simp] theorem State.hardReset_AA (s : State) : s.hardReset.AA = State.reset.AA := rfl
@[simp] theorem State.hardReset_BB (s : State) : s.hardReset.BB = State.reset.BB := rfl
@[simp] theorem State.hardReset_CC (s : State) : s.hardReset.CC = State.reset.CC := rfl
@[simp] theorem State.hardReset_DD (s : State) : s.hardReset.DD = State.reset.DD := rfl
@[simp] theorem State.hardReset_engPhase (s : State) : s.hardReset.engPhase = State.reset.engPhase := rfl
@[simp] theorem State.hardReset_t (s : State) : s.hardReset.t = State.reset.t := rfl
@[simp] theorem State.hardReset_BLK (s : State) : s.hardReset.BLK = State.reset.BLK := rfl
@[simp] theorem State.hardReset_fill (s : State) : s.hardReset.fill = State.reset.fill := rfl
@[simp] theorem State.hardReset_padPhase (s : State) : s.hardReset.padPhase = State.reset.padPhase := rfl
@[simp] theorem State.hardReset_pos (s : State) : s.hardReset.pos = State.reset.pos := rfl
@[simp] theorem State.hardReset_lenIdx (s : State) : s.hardReset.lenIdx = State.reset.lenIdx := rfl
@[simp] theorem State.hardReset_bitlen (s : State) : s.hardReset.bitlen = State.reset.bitlen := rfl
@[simp] theorem State.hardReset_DG (s : State) : s.hardReset.DG = State.reset.DG := rfl
@[simp] theorem State.hardReset_digValid (s : State) : s.hardReset.digValid = State.reset.digValid := rfl
@[simp] theorem State.hardReset_err (s : State) : s.hardReset.err = State.reset.err := rfl
@[simp] theorem State.hardReset_errCode (s : State) : s.hardReset.errCode = State.reset.errCode := rfl
@[simp] theorem State.hardReset_host (s : State) : s.hardReset.host = s.host := rfl
@[simp] theorem State.hardReset_rsp (s : State) : s.hardReset.rsp = State.reset.rsp := rfl

/-! ### `State.reset` -/

@[simp] theorem State.reset_A : State.reset.A = Config.ivA := rfl
@[simp] theorem State.reset_B : State.reset.B = Config.ivB := rfl
@[simp] theorem State.reset_C : State.reset.C = Config.ivC := rfl
@[simp] theorem State.reset_D : State.reset.D = Config.ivD := rfl
@[simp] theorem State.reset_AA : State.reset.AA = 0 := rfl
@[simp] theorem State.reset_BB : State.reset.BB = 0 := rfl
@[simp] theorem State.reset_CC : State.reset.CC = 0 := rfl
@[simp] theorem State.reset_DD : State.reset.DD = 0 := rfl
@[simp] theorem State.reset_engPhase : State.reset.engPhase = .idle := rfl
@[simp] theorem State.reset_t : State.reset.t = 0 := rfl
@[simp] theorem State.reset_BLK : State.reset.BLK = [] := rfl
@[simp] theorem State.reset_fill : State.reset.fill = 0 := rfl
@[simp] theorem State.reset_padPhase : State.reset.padPhase = .msg := rfl
@[simp] theorem State.reset_pos : State.reset.pos = 0 := rfl
@[simp] theorem State.reset_lenIdx : State.reset.lenIdx = 0 := rfl
@[simp] theorem State.reset_bitlen : State.reset.bitlen = 0 := rfl
@[simp] theorem State.reset_DG : State.reset.DG = [] := rfl
@[simp] theorem State.reset_digValid : State.reset.digValid = false := rfl
@[simp] theorem State.reset_err : State.reset.err = false := rfl
@[simp] theorem State.reset_errCode : State.reset.errCode = 0 := rfl
@[simp] theorem State.reset_host : State.reset.host = [] := rfl
@[simp] theorem State.reset_rsp : State.reset.rsp = none := rfl

/-! ### `State.setReg`, `State.stepReg` -/

@[simp] theorem State.getReg_setReg_same (s : State) (r : Reg) (v : Word) : (s.setReg r v).getReg r = v := by cases r <;> rfl

theorem State.getReg_setReg_other (s : State) (r q : Reg) (v : Word) (h : q ≠ r) :
    (s.setReg r v).getReg q = s.getReg q := by
  cases r <;> cases q <;> first | rfl | exact absurd rfl h

@[simp] theorem State.getReg_A (s : State) : s.getReg .A = s.A := rfl
@[simp] theorem State.getReg_B (s : State) : s.getReg .B = s.B := rfl
@[simp] theorem State.getReg_C (s : State) : s.getReg .C = s.C := rfl
@[simp] theorem State.getReg_D (s : State) : s.getReg .D = s.D := rfl
@[simp] theorem State.setReg_A (s : State) (v : Word) : s.setReg .A v = { s with A := v } := rfl
@[simp] theorem State.setReg_B (s : State) (v : Word) : s.setReg .B v = { s with B := v } := rfl
@[simp] theorem State.setReg_C (s : State) (v : Word) : s.setReg .C v = { s with C := v } := rfl
@[simp] theorem State.setReg_D (s : State) (v : Word) : s.setReg .D v = { s with D := v } := rfl

@[simp] theorem State.setReg_keeps_AA (s : State) (r : Reg) (v : Word) : (s.setReg r v).AA = s.AA := by cases r <;> rfl
@[simp] theorem State.setReg_keeps_BB (s : State) (r : Reg) (v : Word) : (s.setReg r v).BB = s.BB := by cases r <;> rfl
@[simp] theorem State.setReg_keeps_CC (s : State) (r : Reg) (v : Word) : (s.setReg r v).CC = s.CC := by cases r <;> rfl
@[simp] theorem State.setReg_keeps_DD (s : State) (r : Reg) (v : Word) : (s.setReg r v).DD = s.DD := by cases r <;> rfl
@[simp] theorem State.setReg_keeps_engPhase (s : State) (r : Reg) (v : Word) : (s.setReg r v).engPhase = s.engPhase := by cases r <;> rfl
@[simp] theorem State.setReg_keeps_t (s : State) (r : Reg) (v : Word) : (s.setReg r v).t = s.t := by cases r <;> rfl
@[simp] theorem State.setReg_keeps_BLK (s : State) (r : Reg) (v : Word) : (s.setReg r v).BLK = s.BLK := by cases r <;> rfl
@[simp] theorem State.setReg_keeps_fill (s : State) (r : Reg) (v : Word) : (s.setReg r v).fill = s.fill := by cases r <;> rfl
@[simp] theorem State.setReg_keeps_padPhase (s : State) (r : Reg) (v : Word) : (s.setReg r v).padPhase = s.padPhase := by cases r <;> rfl
@[simp] theorem State.setReg_keeps_pos (s : State) (r : Reg) (v : Word) : (s.setReg r v).pos = s.pos := by cases r <;> rfl
@[simp] theorem State.setReg_keeps_lenIdx (s : State) (r : Reg) (v : Word) : (s.setReg r v).lenIdx = s.lenIdx := by cases r <;> rfl
@[simp] theorem State.setReg_keeps_bitlen (s : State) (r : Reg) (v : Word) : (s.setReg r v).bitlen = s.bitlen := by cases r <;> rfl
@[simp] theorem State.setReg_keeps_DG (s : State) (r : Reg) (v : Word) : (s.setReg r v).DG = s.DG := by cases r <;> rfl
@[simp] theorem State.setReg_keeps_digValid (s : State) (r : Reg) (v : Word) : (s.setReg r v).digValid = s.digValid := by cases r <;> rfl
@[simp] theorem State.setReg_keeps_err (s : State) (r : Reg) (v : Word) : (s.setReg r v).err = s.err := by cases r <;> rfl
@[simp] theorem State.setReg_keeps_errCode (s : State) (r : Reg) (v : Word) : (s.setReg r v).errCode = s.errCode := by cases r <;> rfl
@[simp] theorem State.setReg_keeps_host (s : State) (r : Reg) (v : Word) : (s.setReg r v).host = s.host := by cases r <;> rfl
@[simp] theorem State.setReg_keeps_rsp (s : State) (r : Reg) (v : Word) : (s.setReg r v).rsp = s.rsp := by cases r <;> rfl

@[simp] theorem State.stepReg_AA (s : State) (T : Reg) (f : Word → Word → Word → Word) (x y z : Reg) (k : Nat)
    (K : Word) (sh : Nat) : (s.stepReg T f x y z k K sh).AA = s.AA := State.setReg_keeps_AA s T _
@[simp] theorem State.stepReg_BB (s : State) (T : Reg) (f : Word → Word → Word → Word) (x y z : Reg) (k : Nat)
    (K : Word) (sh : Nat) : (s.stepReg T f x y z k K sh).BB = s.BB := State.setReg_keeps_BB s T _
@[simp] theorem State.stepReg_CC (s : State) (T : Reg) (f : Word → Word → Word → Word) (x y z : Reg) (k : Nat)
    (K : Word) (sh : Nat) : (s.stepReg T f x y z k K sh).CC = s.CC := State.setReg_keeps_CC s T _
@[simp] theorem State.stepReg_DD (s : State) (T : Reg) (f : Word → Word → Word → Word) (x y z : Reg) (k : Nat)
    (K : Word) (sh : Nat) : (s.stepReg T f x y z k K sh).DD = s.DD := State.setReg_keeps_DD s T _
@[simp] theorem State.stepReg_engPhase (s : State) (T : Reg) (f : Word → Word → Word → Word) (x y z : Reg) (k : Nat)
    (K : Word) (sh : Nat) : (s.stepReg T f x y z k K sh).engPhase = s.engPhase := State.setReg_keeps_engPhase s T _
@[simp] theorem State.stepReg_t (s : State) (T : Reg) (f : Word → Word → Word → Word) (x y z : Reg) (k : Nat)
    (K : Word) (sh : Nat) : (s.stepReg T f x y z k K sh).t = s.t := State.setReg_keeps_t s T _
@[simp] theorem State.stepReg_BLK (s : State) (T : Reg) (f : Word → Word → Word → Word) (x y z : Reg) (k : Nat)
    (K : Word) (sh : Nat) : (s.stepReg T f x y z k K sh).BLK = s.BLK := State.setReg_keeps_BLK s T _
@[simp] theorem State.stepReg_fill (s : State) (T : Reg) (f : Word → Word → Word → Word) (x y z : Reg) (k : Nat)
    (K : Word) (sh : Nat) : (s.stepReg T f x y z k K sh).fill = s.fill := State.setReg_keeps_fill s T _
@[simp] theorem State.stepReg_padPhase (s : State) (T : Reg) (f : Word → Word → Word → Word) (x y z : Reg) (k : Nat)
    (K : Word) (sh : Nat) : (s.stepReg T f x y z k K sh).padPhase = s.padPhase := State.setReg_keeps_padPhase s T _
@[simp] theorem State.stepReg_pos (s : State) (T : Reg) (f : Word → Word → Word → Word) (x y z : Reg) (k : Nat)
    (K : Word) (sh : Nat) : (s.stepReg T f x y z k K sh).pos = s.pos := State.setReg_keeps_pos s T _
@[simp] theorem State.stepReg_lenIdx (s : State) (T : Reg) (f : Word → Word → Word → Word) (x y z : Reg) (k : Nat)
    (K : Word) (sh : Nat) : (s.stepReg T f x y z k K sh).lenIdx = s.lenIdx := State.setReg_keeps_lenIdx s T _
@[simp] theorem State.stepReg_bitlen (s : State) (T : Reg) (f : Word → Word → Word → Word) (x y z : Reg) (k : Nat)
    (K : Word) (sh : Nat) : (s.stepReg T f x y z k K sh).bitlen = s.bitlen := State.setReg_keeps_bitlen s T _
@[simp] theorem State.stepReg_DG (s : State) (T : Reg) (f : Word → Word → Word → Word) (x y z : Reg) (k : Nat)
    (K : Word) (sh : Nat) : (s.stepReg T f x y z k K sh).DG = s.DG := State.setReg_keeps_DG s T _
@[simp] theorem State.stepReg_digValid (s : State) (T : Reg) (f : Word → Word → Word → Word) (x y z : Reg) (k : Nat)
    (K : Word) (sh : Nat) : (s.stepReg T f x y z k K sh).digValid = s.digValid := State.setReg_keeps_digValid s T _
@[simp] theorem State.stepReg_err (s : State) (T : Reg) (f : Word → Word → Word → Word) (x y z : Reg) (k : Nat)
    (K : Word) (sh : Nat) : (s.stepReg T f x y z k K sh).err = s.err := State.setReg_keeps_err s T _
@[simp] theorem State.stepReg_errCode (s : State) (T : Reg) (f : Word → Word → Word → Word) (x y z : Reg) (k : Nat)
    (K : Word) (sh : Nat) : (s.stepReg T f x y z k K sh).errCode = s.errCode := State.setReg_keeps_errCode s T _
@[simp] theorem State.stepReg_host (s : State) (T : Reg) (f : Word → Word → Word → Word) (x y z : Reg) (k : Nat)
    (K : Word) (sh : Nat) : (s.stepReg T f x y z k K sh).host = s.host := State.setReg_keeps_host s T _
@[simp] theorem State.stepReg_rsp (s : State) (T : Reg) (f : Word → Word → Word → Word) (x y z : Reg) (k : Nat)
    (K : Word) (sh : Nat) : (s.stepReg T f x y z k K sh).rsp = s.rsp := State.setReg_keeps_rsp s T _

end Sys2Proof.Machine
end

