-- ==== Sys2Proof/Laws/Ops.lean ====
section
/-! SUPPORT. What each shared operation can do, said once: the room check of the emitting operations, the byte arrays under
`SchedPut` and `SER.LATCH`, the fault entry and the status outputs. -/

namespace Sys2Proof.Machine

/-- An emitting operation answers its next state exactly where the buffer has room. -/
theorem State.ifRoom_next {s s' t : State} : s.ifRoom s' = .next t ↔ s.fill.toNat < 64 ∧ t = s' := by
  unfold State.ifRoom Config.blockBytes
  split
  · next h => simp [h, eq_comm]
  · next h => simp [h]

/-- With room in the buffer an emitting operation answers its next state. -/
theorem State.ifRoom_of_lt {s : State} (s' : State) (h : s.fill.toNat < 64) : s.ifRoom s' = .next s' :=
  State.ifRoom_next.2 ⟨h, rfl⟩

/-- An emitting operation never stops with a fault. -/
theorem State.ifRoom_ne_fault (s s' : State) (f : Fault) : s.ifRoom s' ≠ .fault f := by
  unfold State.ifRoom
  split <;> simp

/-- `SchedPut` writes one byte of `BLK`, at `fill`, and no other. -/
theorem State.read_BLK_schedPut {s : State} (h : s.BLK.wf 64 = true) (b : Byte) (a : Nat) :
    (s.schedPut b).BLK.read a = if a = s.fill.toNat then b else s.BLK.read a :=
  Memory.read_write h _ _ _

/-- `SchedPut` into a buffer with room keeps the canonical form of `BLK`. -/
theorem State.schedPut_BLK_wf {s : State} (h : s.BLK.wf 64 = true) (hf : s.fill.toNat < 64) (b : Byte) :
    (s.schedPut b).BLK.wf 64 = true :=
  Memory.write_wf hf h

/-- `SchedPut` advances `fill` by one where there is room. -/
theorem State.schedPut_fill_toNat {s : State} (hf : s.fill.toNat < 64) (b : Byte) :
    (s.schedPut b).fill.toNat = s.fill.toNat + 1 := by
  simp only [State.schedPut_fill, BitVec.toNat_add, BitVec.ofNat_eq_ofNat, BitVec.toNat_ofNat]
  omega

/-- The serialisation has sixteen bytes. -/
@[simp] theorem ser_length (A B C D : Word) : (ser A B C D).length = 16 := rfl

/-- What `DG` reads as once the Digest State is serialised into it. -/
theorem Memory.read_latch {m : Memory} (h : m.wf 16 = true) (A B C D : Word) (i : Nat) :
    (m.writeBytes 0 (ser A B C D)).read i = if i < 16 then (ser A B C D).getD i 0 else m.read i := by
  rw [Memory.read_writeBytes _ (by simp) h]
  simp

/-- Serialising into `DG` keeps its canonical form. -/
theorem Memory.latch_wf {m : Memory} (h : m.wf 16 = true) (A B C D : Word) :
    (m.writeBytes 0 (ser A B C D)).wf 16 = true :=
  Memory.writeBytes_wf _ (by simp) h

/-- No micro-operation is selected in the faulted state. -/
theorem nextUop_of_err {s : State} (h : s.err = true) : nextUop s = none := by
  simp [nextUop, h]

/-- The selection reads the engine and padder phases, `t`, `fill`, `dig_valid` and `err`, and nothing else. -/
theorem nextUop_congr {s s' : State} (h1 : s'.err = s.err) (h2 : s'.engPhase = s.engPhase) (h3 : s'.t = s.t)
    (h4 : s'.fill = s.fill) (h5 : s'.padPhase = s.padPhase) (h6 : s'.digValid = s.digValid) :
    nextUop s' = nextUop s := by
  simp only [nextUop, h1, h2, h3, h4, h5, h6]

@[simp] theorem nextUop_opened (s : State) (h : List HostAct) : nextUop (s.opened h) = nextUop s :=
  nextUop_congr rfl rfl rfl rfl rfl rfl

/-- The core is ready exactly where nothing is selected and it is not faulted. -/
theorem State.cmdReady_iff {s : State} : s.cmdReady = true ↔ nextUop s = none ∧ s.err = false := by
  simp [State.cmdReady, State.busy]

end Sys2Proof.Machine
end

