-- ==== Sys2Proof/Laws/PerInstr.lean ====
section
/-! SUPPORT. Statements about every operation, one lemma for each constructor of `Instr`. -/

namespace Sys2Proof.Laws.TableRow

/-- The encoding of a well-formed operation has the fixed bits its row of the opcode table gives (30_encoding.md R81, R84). -/
def Statement (i : Instr) : Prop := WellFormed i → (opcodeRow i).selects (encode i) = true

theorem init : Statement .init := fun _ => rfl

theorem data (b : Byte) : Statement (.data b) := by
  intro _
  simp only [opcodeRow, encode, OpcodeRow.selects]
  revert b
  decide

theorem final : Statement .final := fun _ => rfl

theorem rdd (i : Nat) : Statement (.rdd i) := by
  intro h
  clear h
  simp only [opcodeRow, encode, OpcodeRow.selects]
  generalize BitVec.ofNat 4 i = n
  revert n
  decide

theorem rdh (i : Nat) (u : Bool) : Statement (.rdh i u) := by
  intro h
  clear h
  simp only [opcodeRow, encode, OpcodeRow.selects]
  generalize BitVec.ofNat 5 i = n
  revert n
  cases u <;> decide

theorem padMark : Statement .padMark := fun _ => rfl

theorem padZero : Statement .padZero := fun _ => rfl

theorem padLen : Statement .padLen := fun _ => rfl

theorem step0 : Statement .step0 := fun _ => rfl

theorem step1 : Statement .step1 := fun _ => rfl

theorem step2 : Statement .step2 := fun _ => rfl

theorem step3 : Statement .step3 := fun _ => rfl

theorem step4 : Statement .step4 := fun _ => rfl

theorem step5 : Statement .step5 := fun _ => rfl

theorem step6 : Statement .step6 := fun _ => rfl

theorem step7 : Statement .step7 := fun _ => rfl

theorem step8 : Statement .step8 := fun _ => rfl

theorem step9 : Statement .step9 := fun _ => rfl

theorem step10 : Statement .step10 := fun _ => rfl

theorem step11 : Statement .step11 := fun _ => rfl

theorem step12 : Statement .step12 := fun _ => rfl

theorem step13 : Statement .step13 := fun _ => rfl

theorem step14 : Statement .step14 := fun _ => rfl

theorem step15 : Statement .step15 := fun _ => rfl

theorem step16 : Statement .step16 := fun _ => rfl

theorem step17 : Statement .step17 := fun _ => rfl

theorem step18 : Statement .step18 := fun _ => rfl

theorem step19 : Statement .step19 := fun _ => rfl

theorem step20 : Statement .step20 := fun _ => rfl

theorem step21 : Statement .step21 := fun _ => rfl

theorem step22 : Statement .step22 := fun _ => rfl

theorem step23 : Statement .step23 := fun _ => rfl

theorem step24 : Statement .step24 := fun _ => rfl

theorem step25 : Statement .step25 := fun _ => rfl

theorem step26 : Statement .step26 := fun _ => rfl

theorem step27 : Statement .step27 := fun _ => rfl

theorem step28 : Statement .step28 := fun _ => rfl

theorem step29 : Statement .step29 := fun _ => rfl

theorem step30 : Statement .step30 := fun _ => rfl

theorem step31 : Statement .step31 := fun _ => rfl

theorem step32 : Statement .step32 := fun _ => rfl

theorem step33 : Statement .step33 := fun _ => rfl

theorem step34 : Statement .step34 := fun _ => rfl

theorem step35 : Statement .step35 := fun _ => rfl

theorem step36 : Statement .step36 := fun _ => rfl

theorem step37 : Statement .step37 := fun _ => rfl

theorem step38 : Statement .step38 := fun _ => rfl

theorem step39 : Statement .step39 := fun _ => rfl

theorem step40 : Statement .step40 := fun _ => rfl

theorem step41 : Statement .step41 := fun _ => rfl

theorem step42 : Statement .step42 := fun _ => rfl

theorem step43 : Statement .step43 := fun _ => rfl

theorem step44 : Statement .step44 := fun _ => rfl

theorem step45 : Statement .step45 := fun _ => rfl

theorem step46 : Statement .step46 := fun _ => rfl

theorem step47 : Statement .step47 := fun _ => rfl

theorem engCombine : Statement .engCombine := fun _ => rfl

theorem engSave : Statement .engSave := fun _ => rfl

theorem serLatch : Statement .serLatch := fun _ => rfl

end Sys2Proof.Laws.TableRow
end

