-- ==== Sys2Proof/Laws/Step.lean ====
section
/-! SUPPORT. What a step can do, said once: a reset, a micro-operation, an accepted command, the fault entry of a reserved word,
or nothing. And how runs compose. -/

namespace Sys2Proof.Machine

/-- A reset at the port is performed whatever else is the case. -/
theorem slot_reset {s : State} {rest : List HostAct} (h : s.host = .reset :: rest) :
    slot s = .settled (s.opened rest).hardReset := by
  simp only [slot, h]

/-- With no reset at the port the slot is the sequencer's or the command port's. -/
theorem slot_of_not_reset {s : State} (h : s.host.head? ≠ some .reset) : slot s = unresetSlot s := by
  unfold slot
  split
  · next rest heq => simp [heq] at h
  · rfl

/-- What the sequencer's slot comes to. -/
theorem sequencerSlot_cases (c : BitVec 8) (s : State) :
    (s.engPhase = .run ∧ 48 ≤ s.t ∧ sequencerSlot c s = .rejected .noSuchStep) ∨
    (¬(s.engPhase = .run ∧ 48 ≤ s.t) ∧ (∃ e, decodeUop c = .error e) ∧ sequencerSlot c s = .rejected .unassignedUop) ∨
    (¬(s.engPhase = .run ∧ 48 ≤ s.t) ∧ ∃ i, decodeUop c = .ok i ∧ sequencerSlot c s = .performs i s) := by
  unfold sequencerSlot
  split
  · next h => exact Or.inl ⟨h.1, h.2, rfl⟩
  · next h =>
    cases hd : decodeUop c with
    | ok i => exact Or.inr (Or.inr ⟨h, i, rfl, rfl⟩)
    | error e => exact Or.inr (Or.inl ⟨h, ⟨e, rfl⟩, rfl⟩)

/-- What a step that answers a next state has done. -/
theorem step_next_cases {s t : State} (h : step s = .next t) :
    (∃ rest, s.host = .reset :: rest ∧ t = (s.opened rest).hardReset) ∨
    (s.host.head? ≠ some .reset ∧ ∃ c i, nextUop s = some c ∧ ¬(s.engPhase = .run ∧ 48 ≤ s.t) ∧
      decodeUop c = .ok i ∧ exec i (s.opened (untransferred s.host)) = .next t) ∨
    (s.host.head? ≠ some .reset ∧ s.cmdReady = true ∧ ∃ w i, presented s.host = some w ∧
      decodeCmd w = .ok i ∧ exec i (s.opened s.host.tail) = .next t) ∨
    (s.host.head? ≠ some .reset ∧ s.cmdReady = true ∧ ∃ w e, presented s.host = some w ∧
      decodeCmd w = .error e ∧ t = (s.opened s.host.tail).raiseFault .illegalCommand) ∨
    (s.host.head? ≠ some .reset ∧ s.cmdReady = true ∧ presented s.host = none ∧
      t = s.opened (untransferred s.host)) ∨
    (s.err = true ∧ ∃ a rest, s.host = a :: rest ∧ a ≠ .reset ∧ (∀ w, a ≠ .hold w) ∧ t = s.opened rest) := by
  by_cases hr : s.host.head? = some .reset
  · obtain ⟨rest, hrest⟩ : ∃ rest, s.host = .reset :: rest := by
      cases hh : s.host with
      | nil => simp [hh] at hr
      | cons a rest =>
        simp only [hh, List.head?_cons, Option.some.injEq] at hr
        exact ⟨rest, by rw [hr]⟩
    simp only [step, slot_reset hrest, Host.Outcome.next.injEq] at h
    exact Or.inl ⟨rest, hrest, h.symm⟩
  · simp only [step, slot_of_not_reset hr, unresetSlot] at h
    refine Or.inr ?_
    cases hn : nextUop s with
    | some c =>
      simp only [hn] at h
      rcases sequencerSlot_cases c (s.opened (untransferred s.host)) with ⟨-, -, hs⟩ | ⟨-, -, hs⟩ | ⟨hrun, i, hi, hs⟩
      · simp [hs] at h
      · simp [hs] at h
      · simp only [hs] at h
        exact Or.inl ⟨hr, c, i, rfl, hrun, hi, h⟩
    | none =>
      simp only [hn] at h
      refine Or.inr ?_
      by_cases he : s.err = true
      · rw [if_pos he] at h
        refine Or.inr (Or.inr (Or.inr ⟨he, ?_⟩))
        unfold faultedSlot at h
        cases hh : s.host with
        | nil => simp [hh] at h
        | cons a rest =>
          rw [hh] at hr
          cases a <;> simp_all
      · rw [if_neg he] at h
        have hready : s.cmdReady = true := State.cmdReady_iff.2 ⟨hn, by simpa using he⟩
        unfold readySlot at h
        cases hp : presented s.host with
        | none =>
          simp only [hp, Host.Outcome.next.injEq] at h
          exact Or.inr (Or.inr (Or.inl ⟨hr, hready, rfl, h.symm⟩))
        | some w =>
          simp only [hp, accept] at h
          cases hd : decodeCmd w with
          | ok i =>
            simp only [hd] at h
            exact Or.inl ⟨hr, hready, w, i, rfl, hd, h⟩
          | error e =>
            simp only [hd, Host.Outcome.next.injEq] at h
            exact Or.inr (Or.inl ⟨hr, hready, w, e, rfl, hd, h.symm⟩)

/-- A run of no steps answers the state itself. -/
theorem run_zero (s : State) : Sys2Proof.core.run 0 s = .next s := rfl

/-- The first step of a run that answers a next state. -/
theorem run_succ_of_step {s t : State} (k : Nat) (h : step s = .next t) :
    Sys2Proof.core.run (k + 1) s = Sys2Proof.core.run k t := by
  have h' : Sys2Proof.core.step s = .next t := h
  simp only [Host.Core.run, h']

/-- A run of at least one step that answers a next state answers one at its first step. -/
theorem step_of_run_succ {s t : State} {k : Nat} (h : Sys2Proof.core.run (k + 1) s = .next t) :
    ∃ u, step s = .next u ∧ Sys2Proof.core.run k u = .next t := by
  cases hs : step s with
  | next u => exact ⟨u, rfl, by rwa [run_succ_of_step k hs] at h⟩
  | fault f =>
    have h' : Sys2Proof.core.step s = .fault f := hs
    simp [Host.Core.run, h'] at h
  | refused r =>
    have h' : Sys2Proof.core.step s = .refused r := hs
    simp [Host.Core.run, h'] at h

/-- Runs compose: `j` steps that answer a next state and then `k` steps from there. -/
theorem run_add_of_run {s t : State} (j k : Nat) (h : Sys2Proof.core.run j s = .next t) :
    Sys2Proof.core.run (j + k) s = Sys2Proof.core.run k t := by
  induction j generalizing s with
  | zero =>
    obtain rfl : s = t := Host.Outcome.next.inj h
    rw [Nat.zero_add]
  | succ j ih =>
    obtain ⟨u, hu, hr⟩ := step_of_run_succ h
    rw [show j + 1 + k = (j + k) + 1 by omega, run_succ_of_step (j + k) hu]
    exact ih hr

end Sys2Proof.Machine
end

