-- ==== Sys2Proof/Tests/Slice0.lean ====
section
/-! SUPPORT. Tests of the model on the spec's own vectors (97_test_vectors_units.md and 95_test_vectors.md), and for every obligation
with hypotheses a concrete state and operands that meet them. -/

namespace Sys2Proof.Tests

open Sys2Proof Sys2Proof.Machine

-- One theorem after another: the kernel evaluations below would otherwise each ask for a thread of their own.
set_option Elab.async false

/-- The state an outcome answers, if it is a next state. -/
def after : Host.Outcome State Fault Refusal → Option State
  | .next s => some s
  | _ => none

/-- The refusal an outcome answers, if it is one. -/
def refusal : Host.Outcome State Fault Refusal → Option Refusal
  | .refused r => some r
  | _ => none

/-- The fault an outcome answers, if it is one. -/
def stop : Host.Outcome State Fault Refusal → Option Fault
  | .fault f => some f
  | _ => none

/-- A message open with `n` bytes in the buffer (only the last one not zero). -/
def openState (n : Nat) : State :=
  { State.reset with
    BLK := if n = 0 then [] else [(n - 1, 0x61)], fill := BitVec.ofNat 7 n, pos := BitVec.ofNat 6 n
    bitlen := BitVec.ofNat 64 (8 * n) }

/-- A message whose padding is in phase `p`, with `n` bytes in the buffer. -/
def padState (p : PadPhase) (n : Nat) : State := { openState n with padPhase := p }

/-- A padded message whose length byte `k` is owed. -/
def lenState (k : Nat) : State := { padState .len (56 + k) with lenIdx := BitVec.ofNat 3 k }

/-- The engine at step `n` of the Block that 64 bytes of an open message filled. -/
def runState (n : Nat) : State :=
  { openState 64 with
    engPhase := .run, t := BitVec.ofNat 6 n
    AA := Config.ivA, BB := Config.ivB, CC := Config.ivC, DD := Config.ivD }

/-- The engine with the forty-eight steps done. -/
def addState : State := { runState 0 with engPhase := .add }

/-- The padded message is complete and compressed, its digest not yet latched. -/
def latchState : State := padState .done 0

/-- The end state of 95_test_vectors.md V1, the empty message. -/
def finishedState : State :=
  { State.reset with
    A := 0xe0cfd631, B := 0x31e96ad1, C := 0xd7593cb7, D := 0xc089c0e0
    AA := Config.ivA, BB := Config.ivB, CC := Config.ivC, DD := Config.ivD, padPhase := .done
    DG := [(0, 0x31), (1, 0xd6), (2, 0xcf), (3, 0xe0), (4, 0xd1), (5, 0x6a), (6, 0xe9), (7, 0x31),
      (8, 0xb7), (9, 0x3c), (10, 0x59), (11, 0xd7), (12, 0xe0), (13, 0xc0), (14, 0x89), (15, 0xc0)]
    digValid := true }

/-- An open message after an RDD: the fault `DIGEST_NOT_VALID` is recorded. -/
def faultedState : State := { openState 1 with err := true, errCode := 3 }

/-! ## Well-formedness -/

theorem test_rdd_index_of_sixteen_is_ill_formed : ¬WellFormed (.rdd 16) := by decide

theorem test_rdh_index_of_thirtytwo_is_ill_formed : ¬WellFormed (.rdh 32 true) := by decide

/-! ## Decoding: words written out from 30_encoding.md R81 and R84 -/

theorem test_decode_commands :
    decode (.cmd 0b0000000000) = .ok .init ∧ decode (.cmd 0b0111111111) = .ok (.data 0xFF) ∧
    decode (.cmd 0b1000000000) = .ok .final ∧ decode (.cmd 0b1100001111) = .ok (.rdd 15) ∧
    decode (.cmd 0b1101000010) = .ok (.rdh 2 false) ∧ decode (.cmd 0b1101111111) = .ok (.rdh 31 true) := by decide

theorem test_decode_reserved_words :
    decode (.cmd 0x001) = .error .reservedInit ∧ decode (.cmd 0x0FF) = .error .reservedInit ∧
    decode (.cmd 0x201) = .error .reservedFinal ∧ decode (.cmd 0x2FF) = .error .reservedFinal ∧
    decode (.cmd 0x310) = .error .reservedDigestIndex ∧ decode (.cmd 0x33F) = .error .reservedDigestIndex ∧
    decode (.cmd 0x380) = .error .reservedRead ∧ decode (.cmd 0x3FF) = .error .reservedRead := by decide

theorem test_decode_padder :
    decode (.uop 0b00000000) = .ok .padMark ∧ decode (.uop 0b00000001) = .ok .padZero ∧
    decode (.uop 0b00000010) = .ok .padLen := by decide

theorem test_decode_first_round :
    decode (.uop 0b10000000) = .ok .step0 ∧ decode (.uop 0b10000001) = .ok .step1 ∧
    decode (.uop 0b10000010) = .ok .step2 ∧ decode (.uop 0b10000011) = .ok .step3 ∧
    decode (.uop 0b10000100) = .ok .step4 ∧ decode (.uop 0b10000101) = .ok .step5 ∧
    decode (.uop 0b10000110) = .ok .step6 ∧ decode (.uop 0b10000111) = .ok .step7 ∧
    decode (.uop 0b10001000) = .ok .step8 ∧ decode (.uop 0b10001001) = .ok .step9 ∧
    decode (.uop 0b10001010) = .ok .step10 ∧ decode (.uop 0b10001011) = .ok .step11 ∧
    decode (.uop 0b10001100) = .ok .step12 ∧ decode (.uop 0b10001101) = .ok .step13 ∧
    decode (.uop 0b10001110) = .ok .step14 ∧ decode (.uop 0b10001111) = .ok .step15 := by decide

theorem test_decode_second_round :
    decode (.uop 0b10010000) = .ok .step16 ∧ decode (.uop 0b10010001) = .ok .step17 ∧
    decode (.uop 0b10010010) = .ok .step18 ∧ decode (.uop 0b10010011) = .ok .step19 ∧
    decode (.uop 0b10010100) = .ok .step20 ∧ decode (.uop 0b10010101) = .ok .step21 ∧
    decode (.uop 0b10010110) = .ok .step22 ∧ decode (.uop 0b10010111) = .ok .step23 ∧
    decode (.uop 0b10011000) = .ok .step24 ∧ decode (.uop 0b10011001) = .ok .step25 ∧
    decode (.uop 0b10011010) = .ok .step26 ∧ decode (.uop 0b10011011) = .ok .step27 ∧
    decode (.uop 0b10011100) = .ok .step28 ∧ decode (.uop 0b10011101) = .ok .step29 ∧
    decode (.uop 0b10011110) = .ok .step30 ∧ decode (.uop 0b10011111) = .ok .step31 := by decide

theorem test_decode_third_round :
    decode (.uop 0b10100000) = .ok .step32 ∧ decode (.uop 0b10100001) = .ok .step33 ∧
    decode (.uop 0b10100010) = .ok .step34 ∧ decode (.uop 0b10100011) = .ok .step35 ∧
    decode (.uop 0b10100100) = .ok .step36 ∧ decode (.uop 0b10100101) = .ok .step37 ∧
    decode (.uop 0b10100110) = .ok .step38 ∧ decode (.uop 0b10100111) = .ok .step39 ∧
    decode (.uop 0b10101000) = .ok .step40 ∧ decode (.uop 0b10101001) = .ok .step41 ∧
    decode (.uop 0b10101010) = .ok .step42 ∧ decode (.uop 0b10101011) = .ok .step43 ∧
    decode (.uop 0b10101100) = .ok .step44 ∧ decode (.uop 0b10101101) = .ok .step45 ∧
    decode (.uop 0b10101110) = .ok .step46 ∧ decode (.uop 0b10101111) = .ok .step47 := by decide

theorem test_decode_block_boundary :
    decode (.uop 0b10110000) = .ok .engCombine ∧ decode (.uop 0b10111111) = .ok .engSave ∧
    decode (.uop 0b11000000) = .ok .serLatch := by decide

theorem test_decode_unassigned_codes :
    decode (.uop 0x03) = .error .unassignedUop ∧ decode (.uop 0xB1) = .error .unassignedUop ∧
    decode (.uop 0xC1) = .error .unassignedUop := by decide

theorem test_decodeTableWord :
    decodeTableWord 16 0x161 = some (.data 0x61) ∧ decodeTableWord 8 0xAF = some .step47 ∧
    decodeTableWord 16 0x310 = none ∧ decodeTableWord 16 0x400 = none := by decide

/-! ## Commands (97_test_vectors_units.md V57, V61, V62) -/

theorem test_init_restarts : after (exec .init finishedState) = some State.reset := by decide

theorem test_data_appends :
    after (exec (.data 0x63) { openState 2 with BLK := [(0, 0x61), (1, 0x62)] }) =
      some { openState 3 with BLK := [(0, 0x61), (1, 0x62), (2, 0x63)] } := by decide

theorem test_data_fills_the_block :
    (after (exec (.data 0xFF) (openState 63))).map (fun u => (u.fill, u.pos, u.bitlen, u.busy, nextUop u)) =
      some (64, 0, 0x200, true, some 0xBF) := by decide

theorem test_final_closes : after (exec .final (openState 3)) = some (padState .mark 3) := by decide

theorem test_final_of_a_closed_message_faults :
    after (exec .final finishedState) = some { finishedState with err := true, errCode := 2 } := by decide

theorem test_rdd_returns_the_byte : after (exec (.rdd 15) finishedState) = some { finishedState with rsp := some 0xC0 } := by
  decide

theorem test_rdd_without_digest_faults :
    after (exec (.rdd 0) (openState 1)) = some faultedState := by decide

theorem test_rdh_returns_the_character :
    after (exec (.rdh 0 false) finishedState) = some { finishedState with rsp := some 0x33 } := by decide

theorem test_rdh_upper_case :
    after (exec (.rdh 2 true) finishedState) = some { finishedState with rsp := some 0x44 } := by decide

/-! ## Padder (97_test_vectors_units.md V57) -/

theorem test_mark_before_zeros :
    (after (exec .padMark (padState .mark 63))).map (fun u => (u.BLK.read 63, u.fill, u.pos, u.padPhase, nextUop u)) =
      some (0x80, 64, 0, .zero, some 0xBF) := by decide

theorem test_mark_before_length :
    (after (exec .padMark (padState .mark 55))).map (fun u => (u.BLK.read 55, u.fill, u.pos, u.padPhase, nextUop u)) =
      some (0x80, 56, 56, .len, some 0x02) := by decide

theorem test_zero_before_length :
    (after (exec .padZero (padState .zero 55))).map (fun u => (u.BLK.read 55, u.fill, u.pos, u.padPhase)) =
      some (0, 56, 56, .len) := by decide

theorem test_zero_at_the_end_of_the_block :
    (after (exec .padZero (padState .zero 63))).map (fun u => (u.fill, u.pos, u.padPhase, nextUop u)) =
      some (64, 0, .zero, some 0xBF) := by decide

theorem test_length_byte_one :
    (after (exec .padLen { lenState 1 with bitlen := 0x1C0 })).map
      (fun u => (u.BLK.read 57, u.fill, u.pos, u.lenIdx, u.padPhase)) = some (0x01, 58, 58, 2, .len) := by decide

theorem test_length_byte_seven :
    (after (exec .padLen { lenState 7 with bitlen := 0x18 })).map
      (fun u => (u.fill, u.pos, u.lenIdx, u.padPhase, nextUop u)) = some (64, 0, 0, .done, some 0xBF) := by decide

/-! ## Engine (97_test_vectors_units.md V58, V59; 95_test_vectors.md V3, message "abc") -/

theorem test_save_copies :
    (after (exec .engSave (openState 64))).map (fun u => (u.AA, u.BB, u.CC, u.DD, u.engPhase, u.t)) =
      some (0x67452301, 0xefcdab89, 0x98badcfe, 0x10325476, .run, 0) := by decide +kernel

/-- The engine with the given Digest State and the word `x` as word `k` of the schedule, all other words zero. -/
def stepState (a b c d : Word) (k : Nat) (x : Word) : State :=
  { State.reset with
    A := a, B := b, C := c, D := d
    BLK := Memory.writeBytes [] (4 * k) [byteOf x 0, byteOf x 1, byteOf x 2, byteOf x 3] }

/-- The Digest State after an operation. -/
def words (o : Host.Outcome State Fault Refusal) : Option (Word × Word × Word × Word) :=
  (after o).map fun u => (u.A, u.B, u.C, u.D)

/-- The Block of 95_test_vectors.md V3, the message "abc", with the given Digest State. -/
def abcState (a b c d : Word) : State :=
  { State.reset with
    A := a, B := b, C := c, D := d, BLK := [(0, 0x61), (1, 0x62), (2, 0x63), (3, 0x80), (56, 0x18)] }

/-- The examples of 42_compression_engine.md R140 to R143. -/
theorem test_steps_0_to_3_on_abc :
    words (exec .step0 (abcState 0x67452301 0xefcdab89 0x98badcfe 0x10325476)) =
      some (0x031b1304, 0xefcdab89, 0x98badcfe, 0x10325476) ∧
    words (exec .step1 (abcState 0x031b1304 0xefcdab89 0x98badcfe 0x10325476)) =
      some (0x031b1304, 0xefcdab89, 0x98badcfe, 0xee123855) ∧
    words (exec .step2 (abcState 0x031b1304 0xefcdab89 0x98badcfe 0xee123855)) =
      some (0x031b1304, 0xefcdab89, 0xd38454e4, 0xee123855) ∧
    words (exec .step3 (abcState 0x031b1304 0xefcdab89 0xd38454e4 0xee123855)) =
      some (0x031b1304, 0xf66d8f45, 0xd38454e4, 0xee123855) := by decide +kernel

/-- The examples of 42_compression_engine.md R144 to R147. -/
theorem test_steps_4_to_7_on_abc :
    words (exec .step4 (abcState 0x031b1304 0xf66d8f45 0xd38454e4 0xee123855)) =
      some (0xe98a3ac6, 0xf66d8f45, 0xd38454e4, 0xee123855) ∧
    words (exec .step5 (abcState 0xe98a3ac6 0xf66d8f45 0xd38454e4 0xee123855)) =
      some (0xe98a3ac6, 0xf66d8f45, 0xd38454e4, 0x0f435cf0) ∧
    words (exec .step6 (abcState 0xe98a3ac6 0xf66d8f45 0xd38454e4 0x0f435cf0)) =
      some (0xe98a3ac6, 0xf66d8f45, 0x97854e65, 0x0f435cf0) ∧
    words (exec .step7 (abcState 0xe98a3ac6 0xf66d8f45 0x97854e65 0x0f435cf0)) =
      some (0xe98a3ac6, 0x613b2bc8, 0x97854e65, 0x0f435cf0) := by decide +kernel

/-- The examples of 42_compression_engine.md R148 to R151. -/
theorem test_steps_8_to_11_on_abc :
    words (exec .step8 (abcState 0xe98a3ac6 0x613b2bc8 0x97854e65 0x0f435cf0)) =
      some (0xc65cc9b7, 0x613b2bc8, 0x97854e65, 0x0f435cf0) ∧
    words (exec .step9 (abcState 0xc65cc9b7 0x613b2bc8 0x97854e65 0x0f435cf0)) =
      some (0xc65cc9b7, 0x613b2bc8, 0x97854e65, 0x6e365830) ∧
    words (exec .step10 (abcState 0xc65cc9b7 0x613b2bc8 0x97854e65 0x6e365830)) =
      some (0xc65cc9b7, 0x613b2bc8, 0x15d2eef5, 0x6e365830) ∧
    words (exec .step11 (abcState 0xc65cc9b7 0x613b2bc8 0x15d2eef5 0x6e365830)) =
      some (0xc65cc9b7, 0xa7d13acb, 0x15d2eef5, 0x6e365830) := by decide +kernel

/-- The examples of 42_compression_engine.md R152 to R155. -/
theorem test_steps_12_to_15_on_abc :
    words (exec .step12 (abcState 0xc65cc9b7 0xa7d13acb 0x15d2eef5 0x6e365830)) =
      some (0xa299a540, 0xa7d13acb, 0x15d2eef5, 0x6e365830) ∧
    words (exec .step13 (abcState 0xa299a540 0xa7d13acb 0x15d2eef5 0x6e365830)) =
      some (0xa299a540, 0xa7d13acb, 0x15d2eef5, 0x04e19293) ∧
    words (exec .step14 (abcState 0xa299a540 0xa7d13acb 0x15d2eef5 0x04e19293)) =
      some (0xa299a540, 0xa7d13acb, 0x24baadcb, 0x04e19293) ∧
    words (exec .step15 (abcState 0xa299a540 0xa7d13acb 0x24baadcb 0x04e19293)) =
      some (0xa299a540, 0xda717395, 0x24baadcb, 0x04e19293) := by decide +kernel

/-- The examples of 42_compression_engine.md R156 to R159. -/
theorem test_steps_16_to_19_on_abc :
    words (exec .step16 (abcState 0xa299a540 0xda717395 0x24baadcb 0x04e19293)) =
      some (0x1389a66c, 0xda717395, 0x24baadcb, 0x04e19293) ∧
    words (exec .step17 (abcState 0x1389a66c 0xda717395 0x24baadcb 0x04e19293)) =
      some (0x1389a66c, 0xda717395, 0x24baadcb, 0x43b67f2e) ∧
    words (exec .step18 (abcState 0x1389a66c 0xda717395 0x24baadcb 0x43b67f2e)) =
      some (0x1389a66c, 0xda717395, 0xdd3d21a5, 0x43b67f2e) ∧
    words (exec .step19 (abcState 0x1389a66c 0xda717395 0xdd3d21a5 0x43b67f2e)) =
      some (0x1389a66c, 0x228b5116, 0xdd3d21a5, 0x43b67f2e) := by decide +kernel

/-- The examples of 42_compression_engine.md R160 to R163. -/
theorem test_steps_20_to_23_on_abc :
    words (exec .step20 (abcState 0x1389a66c 0x228b5116 0xdd3d21a5 0x43b67f2e)) =
      some (0x8e5c895d, 0x228b5116, 0xdd3d21a5, 0x43b67f2e) ∧
    words (exec .step21 (abcState 0x8e5c895d 0x228b5116 0xdd3d21a5 0x43b67f2e)) =
      some (0x8e5c895d, 0x228b5116, 0xdd3d21a5, 0x8abf3b85) ∧
    words (exec .step22 (abcState 0x8e5c895d 0x228b5116 0xdd3d21a5 0x8abf3b85)) =
      some (0x8e5c895d, 0x228b5116, 0xbd68a784, 0x8abf3b85) ∧
    words (exec .step23 (abcState 0x8e5c895d 0x228b5116 0xbd68a784 0x8abf3b85)) =
      some (0x8e5c895d, 0x4ec68171, 0xbd68a784, 0x8abf3b85) := by decide +kernel

/-- The examples of 42_compression_engine.md R164 to R167. -/
theorem test_steps_24_to_27_on_abc :
    words (exec .step24 (abcState 0x8e5c895d 0x4ec68171 0xbd68a784 0x8abf3b85)) =
      some (0xbe6d33db, 0x4ec68171, 0xbd68a784, 0x8abf3b85) ∧
    words (exec .step25 (abcState 0xbe6d33db 0x4ec68171 0xbd68a784 0x8abf3b85)) =
      some (0xbe6d33db, 0x4ec68171, 0xbd68a784, 0x75cb1df4) ∧
    words (exec .step26 (abcState 0xbe6d33db 0x4ec68171 0xbd68a784 0x75cb1df4)) =
      some (0xbe6d33db, 0x4ec68171, 0x74661d2d, 0x75cb1df4) ∧
    words (exec .step27 (abcState 0xbe6d33db 0x4ec68171 0x74661d2d 0x75cb1df4)) =
      some (0xbe6d33db, 0x0323e3b7, 0x74661d2d, 0x75cb1df4) := by decide +kernel

/-- The examples of 42_compression_engine.md R168 to R171. -/
theorem test_steps_28_to_31_on_abc :
    words (exec .step28 (abcState 0xbe6d33db 0x0323e3b7 0x74661d2d 0x75cb1df4)) =
      some (0x7296594c, 0x0323e3b7, 0x74661d2d, 0x75cb1df4) ∧
    words (exec .step29 (abcState 0x7296594c 0x0323e3b7 0x74661d2d 0x75cb1df4)) =
      some (0x7296594c, 0x0323e3b7, 0x74661d2d, 0x4e7e1748) ∧
    words (exec .step30 (abcState 0x7296594c 0x0323e3b7 0x74661d2d 0x4e7e1748)) =
      some (0x7296594c, 0x0323e3b7, 0x3dd42422, 0x4e7e1748) ∧
    words (exec .step31 (abcState 0x7296594c 0x0323e3b7 0x3dd42422 0x4e7e1748)) =
      some (0x7296594c, 0x8e531b8f, 0x3dd42422, 0x4e7e1748) := by decide +kernel

/-- The examples of 42_compression_engine.md R172 to R175. -/
theorem test_steps_32_to_35_on_abc :
    words (exec .step32 (abcState 0x7296594c 0x8e531b8f 0x3dd42422 0x4e7e1748)) =
      some (0xfe66819a, 0x8e531b8f, 0x3dd42422, 0x4e7e1748) ∧
    words (exec .step33 (abcState 0xfe66819a 0x8e531b8f 0x3dd42422 0x4e7e1748)) =
      some (0xfe66819a, 0x8e531b8f, 0x3dd42422, 0x73824016) ∧
    words (exec .step34 (abcState 0xfe66819a 0x8e531b8f 0x3dd42422 0x73824016)) =
      some (0xfe66819a, 0x8e531b8f, 0x2f4e3583, 0x73824016) ∧
    words (exec .step35 (abcState 0xfe66819a 0x8e531b8f 0x2f4e3583 0x73824016)) =
      some (0xfe66819a, 0xfd9fcfeb, 0x2f4e3583, 0x73824016) := by decide +kernel

/-- The examples of 42_compression_engine.md R176 to R179. -/
theorem test_steps_36_to_39_on_abc :
    words (exec .step36 (abcState 0xfe66819a 0xfd9fcfeb 0x2f4e3583 0x73824016)) =
      some (0x74a13dc8, 0xfd9fcfeb, 0x2f4e3583, 0x73824016) ∧
    words (exec .step37 (abcState 0x74a13dc8 0xfd9fcfeb 0x2f4e3583 0x73824016)) =
      some (0x74a13dc8, 0xfd9fcfeb, 0x2f4e3583, 0x99e6af11) ∧
    words (exec .step38 (abcState 0x74a13dc8 0xfd9fcfeb 0x2f4e3583 0x99e6af11)) =
      some (0x74a13dc8, 0xfd9fcfeb, 0x03f2b578, 0x99e6af11) ∧
    words (exec .step39 (abcState 0x74a13dc8 0xfd9fcfeb 0x03f2b578 0x99e6af11)) =
      some (0x74a13dc8, 0x71a2ad97, 0x03f2b578, 0x99e6af11) := by decide +kernel

/-- The examples of 42_compression_engine.md R180 to R183. -/
theorem test_steps_40_to_43_on_abc :
    words (exec .step40 (abcState 0x74a13dc8 0x71a2ad97 0x03f2b578 0x99e6af11)) =
      some (0x798f0b3e, 0x71a2ad97, 0x03f2b578, 0x99e6af11) ∧
    words (exec .step41 (abcState 0x798f0b3e 0x71a2ad97 0x03f2b578 0x99e6af11)) =
      some (0x798f0b3e, 0x71a2ad97, 0x03f2b578, 0x3f5d0629) ∧
    words (exec .step42 (abcState 0x798f0b3e 0x71a2ad97 0x03f2b578 0x3f5d0629)) =
      some (0x798f0b3e, 0x71a2ad97, 0xea0ccd51, 0x3f5d0629) ∧
    words (exec .step43 (abcState 0x798f0b3e 0x71a2ad97 0xea0ccd51 0x3f5d0629)) =
      some (0x798f0b3e, 0xacbf46ad, 0xea0ccd51, 0x3f5d0629) := by decide +kernel

/-- The examples of 42_compression_engine.md R184 to R187. -/
theorem test_steps_44_to_47_on_abc :
    words (exec .step44 (abcState 0x798f0b3e 0xacbf46ad 0xea0ccd51 0x3f5d0629)) =
      some (0x12bc25a3, 0xacbf46ad, 0xea0ccd51, 0x3f5d0629) ∧
    words (exec .step45 (abcState 0x12bc25a3 0xacbf46ad 0xea0ccd51 0x3f5d0629)) =
      some (0x12bc25a3, 0xacbf46ad, 0xea0ccd51, 0x8d405204) ∧
    words (exec .step46 (abcState 0x12bc25a3 0xacbf46ad 0xea0ccd51 0x8d405204)) =
      some (0x12bc25a3, 0xacbf46ad, 0x4f4fe461, 0x8d405204) ∧
    words (exec .step47 (abcState 0x12bc25a3 0xacbf46ad 0x4f4fe461 0x8d405204)) =
      some (0x12bc25a3, 0x630a7626, 0x4f4fe461, 0x8d405204) := by decide +kernel

theorem test_step0_carries :
    words (exec .step0 (stepState 0xffffffff 0xffffffff 0xffffffff 0xffffffff 0 0xffffffff)) =
      some (0xffffffef, 0xffffffff, 0xffffffff, 0xffffffff) := by decide +kernel

theorem test_step3_rotates_by_nineteen :
    words (exec .step3 (stepState 1 2 3 4 3 0x80000000)) = some (1, 0x00140000, 3, 4) := by decide +kernel

theorem test_step16_majority :
    words (exec .step16 (stepState 0xffffffff 0 0xffffffff 0 0 1)) = some (0xd413ccca, 0, 0xffffffff, 0) := by decide +kernel

theorem test_step21_second_round :
    words (exec .step21 (stepState 0x01234567 0x89abcdef 0xfedcba98 0x76543210 5 0xdeadbeef)) =
      some (0x01234567, 0x89abcdef, 0xfedcba98, 0x260710e7) := by decide +kernel

theorem test_step32_third_round : words (exec .step32 (stepState 0 0 0 0 0 0)) = some (0x76cf5d0b, 0, 0, 0) := by decide +kernel

theorem test_step35_parity :
    words (exec .step35 (stepState 0x01234567 0x89abcdef 0xfedcba98 0x76543210 12 0xdeadbeef)) =
      some (0x01234567, 0xa337306f, 0xfedcba98, 0x76543210) := by decide +kernel

theorem test_step47_hands_over :
    (after (exec .step47 { stepState 0x80000000 0x80000000 0x80000000 0x80000000 15 0x80000000 with
      engPhase := .run, t := 47 })).map (fun u => (u.B, u.engPhase, u.t)) = some (0xf5d0f76c, .add, 0) := by decide +kernel

theorem test_combine_adds :
    (after (exec .engCombine { addState with
      A := 0x12bc25a3, B := 0x630a7626, C := 0x4f4fe461, D := 0x8d405204, padPhase := .done })).map
      (fun u => (u.A, u.B, u.C, u.D, nextUop u)) =
      some (0x7a0148a4, 0x52d821af, 0xe80ac15f, 0x9d72a67a, some 0xC0) := by decide +kernel

theorem test_combine_wraps :
    words (exec .engCombine { addState with
      A := 0xffffffff, B := 1, C := 0x80000000, D := 0, AA := 1, BB := 0xffffffff, CC := 0x80000000, DD := 0 }) =
      some (0, 0, 0, 0) := by decide +kernel

/-! ## Serializer (97_test_vectors_units.md V56) -/

theorem test_latch_serialises :
    (after (exec .serLatch { latchState with A := 0x01234567, B := 0x89abcdef, C := 0xfedcba98, D := 0x76543210 })).map
      (fun u => ((List.range 16).map u.DG.read, u.digValid, u.digest)) =
      some ([0x67, 0x45, 0x23, 0x01, 0xef, 0xcd, 0xab, 0x89, 0x98, 0xba, 0xdc, 0xfe, 0x10, 0x32, 0x54, 0x76], true,
        0x76543210fedcba9889abcdef01234567) := by decide +kernel

/-! ## Reset and the faulted state (97_test_vectors_units.md V62) -/

theorem test_reset_loses_the_computation :
    after (step { runState 20 with host := [.reset, .hold 0x161] }) =
      some { State.reset with host := [.hold 0x161] } := by decide +kernel

theorem test_faulted_core_takes_no_init :
    after (step { faultedState with host := [.offer 0x000, .reset] }) = some { faultedState with host := [.reset] } ∧
    stop (step { faultedState with host := [.hold 0x000] }) = some .digestNotValid := by decide +kernel

/-! ## Witnesses: a state and operands that meet the hypotheses of each obligation -/

/-- What the states below that meet the invariants have in common. -/
theorem witness_invariants_open : Invariants (openState 1) := by constructor <;> decide +kernel

theorem witness_invariants_running : Invariants { runState 20 with host := [.hold 0x161] } := by
  constructor <;> decide +kernel

theorem witness_invariants_marking : Invariants (padState .mark 56) := by constructor <;> decide +kernel

theorem witness_invariants_length : Invariants (lenState 7) := by constructor <;> decide +kernel

theorem witness_invariants_finished : Invariants { finishedState with host := hostOf (hashOf [0x61]) } := by
  constructor <;> decide +kernel

theorem witness_invariants_faulted : Invariants faultedState := by constructor <;> decide +kernel

theorem witness_EncodedOperationsDecodeToThemselves :
    WellFormed (.rdd 15) ∧ WellFormed (.rdh 31 true) ∧ WellFormed (.data 0xFF) ∧ WellFormed .step47 := by decide

theorem witness_DecodedCodesEncodeToThemselves :
    decode (.cmd 0x37F) = .ok (.rdh 31 true) ∧ decode (.uop 0xC0) = .ok .serLatch := by decide

/-- The two ends of each of the four ranges, at a ready core, and the legal words beside them. -/
theorem witness_ReservedWordsRaiseIllegalCommand :
    (∀ n ∈ [0x001, 0x0FF, 0x201, 0x2FF, 0x310, 0x33F, 0x380, 0x3FF],
      let w := BitVec.ofNat 10 n
      let s := { openState 1 with host := [.hold w] }
      s.cmdReady = true ∧ presented s.host = some w ∧ (decodeCmd w).isOk = false) ∧
    ∀ n ∈ [0x000, 0x100, 0x1FF, 0x200, 0x300, 0x30F, 0x340, 0x37F], (decodeCmd (BitVec.ofNat 10 n)).isOk = true := by
  decide +kernel

theorem witness_CodesSelectTheirTableRow :
    decode (.cmd 0x30F) = .ok (.rdd 15) ∧ (opcodeRow (.rdd 0)).selects (.cmd 0x30F) = true := by decide

theorem witness_AssignedMicroOperationCodes : (0 : BitVec 6) < 48 ∧ (47 : BitVec 6) < 48 := by decide

theorem witness_StepPerformsTheDecodedOperation :
    ((runState 47).host.head? ≠ some .reset ∧ nextUop (runState 47) = some 0xAF ∧
      decode (.uop 0xAF) = .ok .step47 ∧ ((runState 47).engPhase = .run → (runState 47).t < 48)) ∧
    (let s := { openState 1 with host := [.offer 0x200] }
     s.cmdReady = true ∧ presented s.host = some 0x200 ∧ decode (.cmd 0x200) = .ok .final) := by decide +kernel

theorem witness_FetchWordRunsNext : decodeTableWord 16 0x300 = some (.rdd 0) ∧ decodeTableWord 8 0xBF = some .engSave := by
  decide

theorem witness_AcceptDecodesThenPerforms :
    (let s := { finishedState with host := [.hold 0x30F] }
     s.cmdReady = true ∧ presented s.host = some 0x30F ∧ decodeCmd 0x30F = .ok (.rdd 15) ∧
     (after (step s)).map (fun t => t.rsp) = some (some 0xC0)) ∧
    (let s := { finishedState with host := [.hold 0x2FF] }
     s.cmdReady = true ∧ presented s.host = some 0x2FF ∧ decodeCmd 0x2FF = .error .reservedFinal) := by decide +kernel

theorem witness_RotateMovesEachBit : (1 ≤ 1 ∧ 1 ≤ 31 ∧ 0 < 32) ∧ (1 ≤ 31 ∧ 31 ≤ 31 ∧ 31 < 32) := by decide

theorem witness_RotateIsABijection : ∀ n ∈ [3, 19], n ∈ [3, 5, 7, 9, 11, 13, 15, 19] := by decide

theorem witness_RoundFunctionsBitByBit : 0 < 32 ∧ 31 < 32 := by decide

theorem witness_BlockWordsAreLittleEndian : 0 < 4 ∧ 3 < 4 := by decide

theorem witness_CanonicalArraysAreEqualByReads :
    let m : Memory := [(0, 0x61), (63, 0x80)]
    m.wf 64 = true ∧ ∀ a < 64, m.read a = m.read a := by decide

theorem witness_SchedPutReplacesOneByteLane :
    ∀ n ∈ [0, 1, 63], (openState n).BLK.wf 64 = true ∧ (openState n).fill.toNat < 64 := by decide +kernel

theorem witness_InitRestartsTheMessage :
    finishedState.cmdReady = true ∧ (after (exec .init finishedState)).isSome = true ∧
    (let s := { finishedState with host := [.hold 0x000, .hold 0x161] }
     s.cmdReady = true ∧ s.host = .hold 0x000 :: [.hold 0x161]) := by decide +kernel

theorem witness_DataAppendsOneByte :
    (∀ n ∈ [0, 62, 63], let s := openState n
      s.padPhase = .msg ∧ s.fill.toNat < 64 ∧ s.engPhase = .idle ∧ s.err = false ∧
      (after (exec (.data 0x61) s)).isSome = true) ∧
    (openState 63).fill = 63 ∧ finishedState.padPhase ≠ .msg := by decide +kernel

theorem witness_FinalStartsThePadding :
    (∀ n ∈ [0, 63], (openState n).cmdReady = true ∧ (openState n).padPhase = .msg ∧
      (after (exec .final (openState n))).isSome = true) ∧ finishedState.padPhase ≠ .msg := by decide +kernel

theorem witness_ReadDigestByte : 0 < 16 ∧ 15 < 16 ∧ finishedState.digValid = true ∧ (openState 1).digValid = false := by
  decide

theorem witness_ReadHexCharacter : 0 < 32 ∧ 31 < 32 ∧ finishedState.digValid = true ∧ (openState 1).digValid = false := by
  decide

theorem witness_PadMarkAppendsTheMarker :
    ∀ n ∈ [0, 55, 63], let s := padState .mark n
      s.fill.toNat < 64 ∧ s.err = false ∧ nextUop s = some 0x00 ∧ (after (exec .padMark s)).isSome = true := by
  decide +kernel

theorem witness_PadZeroAppendsAZeroByte :
    ∀ n ∈ [0, 55, 63], let s := padState .zero n
      s.fill.toNat < 64 ∧ s.err = false ∧ s.padPhase = .zero ∧ nextUop s = some 0x01 ∧
      (after (exec .padZero s)).isSome = true := by decide +kernel

theorem witness_PadLenAppendsALengthByte :
    ∀ k ∈ [0, 6, 7], let s := lenState k
      s.fill.toNat < 64 ∧ (s.lenIdx = 7 ↔ k = 7) ∧ s.err = false ∧ s.padPhase = .len ∧ s.engPhase = .idle ∧
      s.fill.toNat = 56 + s.lenIdx.toNat ∧ nextUop s = some 0x02 ∧ (after (exec .padLen s)).isSome = true := by
  decide +kernel

theorem witness_EngSaveCopiesTheDigestState :
    (openState 64).t < 48 ∧ nextUop (openState 64) = some 0xBF ∧ (openState 64).err = false ∧
    (after (exec .engSave (openState 64))).isSome = true := by decide +kernel

theorem witness_EveryStepIsAnInstanceOfTheGeneralRule :
    (runState 0).err = false ∧ (runState 0).engPhase = .run ∧
    ((0 : BitVec 6) < 48 ∧ decodeUop (stepCode 0) = .ok .step0) ∧
    ((47 : BitVec 6) < 48 ∧ decodeUop (stepCode 47) = .ok .step47) := by decide +kernel

theorem witness_EngCombineAddsTheSavedState :
    addState.t < 48 ∧ nextUop addState = some 0xB0 ∧ addState.err = false ∧ addState.digValid = false ∧
    (after (exec .engCombine addState)).isSome = true := by decide +kernel

theorem witness_SerLatchStoresTheDigest :
    latchState.DG.wf 16 = true ∧ latchState.err = false ∧ latchState.padPhase = .done ∧ latchState.engPhase = .idle ∧
    latchState.fill ≠ 64 ∧ nextUop latchState = some 0xC0 ∧ (after (exec .serLatch latchState)).isSome = true := by
  decide +kernel

theorem witness_StopsOutsideTheSpec :
    (openState 64).padPhase = .msg ∧ 64 ≤ (openState 64).fill.toNat ∧ 16 ≤ 16 ∧ 32 ≤ 32 ∧
    (runState 48).host.head? ≠ some .reset ∧ (runState 48).err = false ∧ (runState 48).engPhase = .run ∧
    48 ≤ (runState 48).t := by decide +kernel

/-- For the statements about every operation: operations that answer a next state, and change what the statements name. -/
theorem witness_SequencerStateMovesOnlyAsListed :
    (after (exec .padMark (padState .mark 55))).map (fun u => u.padPhase) = some .len ∧
    (after (exec .padLen (lenState 6))).map (fun u => u.lenIdx) = some 7 ∧
    (after (exec .step47 (runState 47))).map (fun u => (u.engPhase, u.t)) = some (.add, 0) ∧
    stepIndex .step0 = some 0 ∧ stepIndex .step47 = some 47 := by decide +kernel

theorem witness_RegistersChangeOnlyByTheirWriters :
    (after (exec .step0 (runState 0))).any (fun u => u.A != (runState 0).A) = true ∧
    (after (exec .engSave (openState 64))).any (fun u => u.AA != (openState 64).AA) = true := by decide +kernel

theorem witness_BuffersChangeOnlyByTheirWriters :
    (after (exec (.data 0x62) (openState 1))).any
      (fun u => u.BLK != (openState 1).BLK && u.pos != (openState 1).pos && u.bitlen != (openState 1).bitlen) = true ∧
    (after (exec .serLatch latchState)).any (fun u => u.DG != latchState.DG) = true ∧
    (after (exec (.rdd 0) (openState 1))).any (fun u => u.err) = true := by decide +kernel

theorem witness_EmittersStoreOneByteAtFill :
    ((openState 63).BLK.wf 64 = true ∧ (openState 63).padPhase = .msg ∧
      (after (exec (.data 0x61) (openState 63))).isSome = true) ∧
    ((padState .mark 0).BLK.wf 64 = true ∧ (after (exec .padMark (padState .mark 0))).isSome = true) ∧
    ((padState .zero 1).BLK.wf 64 = true ∧ (after (exec .padZero (padState .zero 1))).isSome = true) ∧
    ((lenState 7).BLK.wf 64 = true ∧ (after (exec .padLen (lenState 7))).isSome = true) := by decide +kernel

/-- A word for each of the three causes, accepted by a core that is not faulted. -/
theorem witness_FaultsComeOnlyFromAccept :
    (∀ n ∈ [0x001, 0x300, 0x340], let w := BitVec.ofNat 10 n
      let s := { openState 1 with host := [.hold w] }
      s.err = false ∧ presented s.host = some w ∧ (after (step s)).any (fun u => u.err) = true) ∧
    (∀ n ∈ [0x161, 0x200], let w := BitVec.ofNat 10 n
      let s := { finishedState with host := [.hold w] }
      s.err = false ∧ presented s.host = some w ∧ (after (step s)).any (fun u => u.err) = true) ∧
    (after (step (runState 0))).any (fun u => u.err) = false := by decide +kernel

theorem witness_OnlyResetLeavesTheFaultedState :
    faultedState.err = true ∧
    (after (step { faultedState with host := [.reset, .pause] })).isSome = true ∧
    (after (step { faultedState with host := [.pause, .reset] })).isSome = true := by decide +kernel

theorem witness_ResetOverridesEverything :
    let s := { runState 20 with host := [.reset, .hold 0x161] }
    s.host = .reset :: [.hold 0x161] := by decide

theorem witness_HeldWordHasNoEffectWhileBusy :
    let s := { runState 20 with host := [.hold 0x200, .pause] }
    s.busy = true ∧ s.host = .hold 0x200 :: [.pause] ∧ (after (step s)).isSome = true := by decide +kernel

theorem witness_IdleReadyCoreWaits :
    ((openState 1).cmdReady = true ∧ (openState 1).host = []) ∧
    (let s := { finishedState with host := [.pause] }
     s.cmdReady = true ∧ s.host = .pause :: []) := by decide +kernel

theorem witness_ReadyStatesAreOpenOrFinished :
    (Invariants (openState 1) ∧ (openState 1).cmdReady = true) ∧
    (Invariants { finishedState with host := hostOf (hashOf [0x61]) } ∧ finishedState.cmdReady = true) :=
  ⟨⟨witness_invariants_open, by decide +kernel⟩, witness_invariants_finished, by decide +kernel⟩

theorem witness_SelectionLinesAreExclusive :
    Invariants (lenState 7) ∧ (selectionLines (lenState 7)).getD 5 false = true ∧ 5 < 7 :=
  ⟨witness_invariants_length, by decide +kernel, by decide⟩

theorem witness_StepKeepsTheInvariants :
    Invariants (lenState 7) ∧ (after (step (lenState 7))).isSome = true :=
  ⟨witness_invariants_length, by decide +kernel⟩

theorem witness_ReachableStatesMeetTheInvariants :
    (after (Sys2Proof.core.run 2 { State.reset with host := [.hold 0x161, .hold 0x200] })).map (fun u => u.padPhase) =
      some .mark := by decide +kernel

theorem witness_EveryStepHasARule :
    (Invariants (padState .mark 56) ∧ (after (step (padState .mark 56))).isSome = true) ∧
    (Invariants faultedState ∧ stop (step faultedState) = some .digestNotValid) :=
  ⟨⟨witness_invariants_marking, by decide +kernel⟩, witness_invariants_faulted, by decide +kernel⟩

theorem witness_BlockRunComputesCompress :
    let s := { openState 64 with host := [.hold 0x161] }
    s.err = false ∧ s.engPhase = .idle ∧ s.fill = 64 ∧ HostQuiet s :=
  ⟨by decide, by decide, by decide, Or.inr ⟨0x161, [], rfl⟩⟩

/-- Both clauses of the bound: a Block of an open message, and the longest padding, of a message of 56 bytes mod 64. -/
theorem witness_BusyEndsWithinTheBound :
    (let s := { runState 20 with host := [.hold 0x161] }
     Invariants s ∧ HostQuiet s ∧ s.busy = true ∧ s.padPhase = .msg) ∧
    (let s := padState .mark 56
     Invariants s ∧ HostQuiet s ∧ s.busy = true ∧ s.padPhase ≠ .msg) :=
  ⟨⟨witness_invariants_running, Or.inr ⟨0x161, [], rfl⟩, by decide +kernel, by decide⟩,
    witness_invariants_marking, Or.inl rfl, by decide +kernel, by decide⟩

/-- The two sides of the bound on `pos`. -/
theorem witness_FinalTakesTheListedOperations :
    (let s := { openState 55 with host := [sends .final] }
     Invariants s ∧ MessageOpen s ∧ s.host = [sends .final] ∧ s.pos.toNat ≤ 55) ∧
    (let s := { openState 56 with host := [sends .final] }
     Invariants s ∧ MessageOpen s ∧ s.host = [sends .final] ∧ ¬s.pos.toNat ≤ 55) := by
  refine ⟨⟨?_, ?_, rfl, by decide⟩, ?_, ?_, rfl, by decide⟩
  · constructor <;> decide +kernel
  · exact ⟨rfl, by decide, rfl, rfl, rfl⟩
  · constructor <;> decide +kernel
  · exact ⟨rfl, by decide, rfl, rfl, rfl⟩

theorem witness_WholeMessageYieldsItsDigest :
    let s := { finishedState with host := hostOf (hashOf [0x61]) }
    Invariants s ∧ s.cmdReady = true ∧ s.host = hostOf (hashOf [0x61]) :=
  ⟨witness_invariants_finished, by decide +kernel, rfl⟩

theorem witness_NoMessageByteIsRetained :
    (let s := { finishedState with host := hostOf (hashOf [0x61]) }
     Invariants s ∧ s.padPhase = .done ∧ s.busy = false) ∧
    (after (exec .engCombine addState)).isSome = true ∧ (after (exec .init (openState 1))).isSome = true ∧
    (after (step { openState 1 with host := [.reset] })).isSome = true :=
  ⟨⟨witness_invariants_finished, by decide, by decide +kernel⟩, by decide +kernel, by decide +kernel, by decide +kernel⟩

theorem witness_HexRenderingIsHexadecimal :
    10 ≤ hexNibble finishedState.DG 2 ∧ hexNibble finishedState.DG 0 ≤ 9 := by decide +kernel

theorem witness_ParallelOutputCarriesTheDigest :
    Invariants (openState 1) ∧ (openState 1).digValid = false ∧ 0 < 16 ∧ 15 < 16 :=
  ⟨witness_invariants_open, by decide, by decide, by decide⟩

theorem witness_PaddedLengthIsTheSmallestMultiple :
    64 % 64 = 0 ∧ [0x61].length + 9 ≤ 64 := by decide

/-- Two states that differ in a message byte sent, a message byte to be sent, and the Digest State. -/
theorem witness_ControlDoesNotDependOnTheData :
    let s := { openState 1 with host := [.hold 0x161] }
    let s' := { openState 1 with BLK := [(0, 0x7A)], A := 0, host := [.hold 0x17A] }
    Invariants s ∧ Invariants s' ∧ s.control = s'.control ∧ s.digValid = false ∧ (after (step s)).isSome = true := by
  refine ⟨?_, ?_, ?_, ?_, ?_⟩
  · constructor <;> decide +kernel
  · constructor <;> decide +kernel
  all_goals decide +kernel

end Sys2Proof.Tests
end

/-! The words of the design: the rotation as the library's, bit by bit (00_scope.md R10). -/

namespace Sys2Proof.Machine

/-- In the range of 00_scope.md R10 the spec's formula is the library's rotation. -/
theorem rotl32_eq_rotateLeft (x : Word) {s : Nat} (hs : s < 32) : rotl32 x s = x.rotateLeft s := by
  rw [BitVec.rotateLeft_def, Nat.mod_eq_of_lt hs, rotl32]

/-- Settles O11: a bit either moves up by `s` or wraps around from the top. -/
theorem rotateMovesEachBit : Obligations.RotateMovesEachBit := by
  intro x s i _ hs hi
  rw [rotl32_eq_rotateLeft x (by omega), BitVec.getLsbD_rotateLeft_of_le (by omega)]
  by_cases hwrap : i + s < 32
  · have hpos : (i + s) % 32 = i + s := Nat.mod_eq_of_lt hwrap
    simp [hpos, hwrap]
  · have hpos : (i + s) % 32 = i + s - 32 := by omega
    have hback : 32 - s + (i + s - 32) = i := by omega
    have hlow : i + s - 32 < s := by omega
    simp [hpos, hback, hlow]

end Sys2Proof.Machine

/-! Which operations the decoders can answer (30_encoding.md R82, R84). -/

namespace Sys2Proof

/-- The operations that emit a byte into the block buffer, so that they need room in it (41_block_scheduler.md R121). -/
def Instr.emitsByte : Instr → Bool
  | .data _ | .padMark | .padZero | .padLen => true
  | _ => false

/-- A command word's index fields are too narrow for an index out of range. -/
theorem wellFormed_of_decodeCmd {w : BitVec 10} {i : Instr} (h : decodeCmd w = .ok i) : WellFormed i := by
  simp only [decodeCmd] at h
  split_ifs at h <;> cases h
  case pos => rfl
  case pos => rfl
  case pos => rfl
  case pos => exact decide_eq_true (BitVec.isLt _)
  case neg => exact decide_eq_true (BitVec.isLt _)

/-- What a micro-operation code decodes to stands in its row of the table. -/
theorem mem_uopTable_of_decodeUop {c : BitVec 8} {i : Instr} (h : decodeUop c = .ok i) : (c, i) ∈ uopTable := by
  unfold decodeUop at h
  split at h
  · next row hfind =>
    cases h
    have hcode : row.1 = c := by simpa using List.find?_some hfind
    exact hcode ▸ List.mem_of_find?_eq_some hfind
  · cases h

/-- No micro-operation has an operand that could be out of range. -/
theorem wellFormed_of_decodeUop {c : BitVec 8} {i : Instr} (h : decodeUop c = .ok i) : WellFormed i := by
  have hrows : ∀ row ∈ uopTable, row.2.wf = true := by decide
  exact hrows _ (mem_uopTable_of_decodeUop h)

/-- The micro-operations that emit a byte are the padder's. -/
theorem code_le_of_emitsByte {c : BitVec 8} {i : Instr} (h : decodeUop c = .ok i) (hi : i.emitsByte = true) :
    c ≤ 0x02 := by
  have hrows : ∀ row ∈ uopTable, row.2.emitsByte = true → row.1 ≤ 0x02 := by decide
  exact hrows _ (mem_uopTable_of_decodeUop h) hi

end Sys2Proof

/-! What the sequencer selects, and what a step is in each kind of slot (30_encoding.md R85, R86). -/

namespace Sys2Proof.Machine

/-- The codes of the forty-eight steps are assigned. -/
theorem decodeUop_stepCode_isOk {t : BitVec 6} (ht : t < 48) : ∃ i, decodeUop (stepCode t) = .ok i := by
  have hall : ∀ t : BitVec 6, t < 48 → (decodeUop (stepCode t)).isOk = true := by decide
  have hok := hall t ht
  cases hd : decodeUop (stepCode t) with
  | ok i => exact ⟨i, rfl⟩
  | error e => simp [hd, Except.isOk, Except.toBool] at hok

/-- The code of a step is above those of the padder. -/
theorem not_stepCode_le (t : BitVec 6) : ¬stepCode t ≤ 0x02 := by
  revert t
  decide

/-- The engine has no fourth phase. -/
theorem EngPhase.eq_idle {p : EngPhase} (hrun : p ≠ .run) (hadd : p ≠ .add) : p = .idle := by
  cases p with
  | idle => rfl
  | run => exact absurd rfl hrun
  | add => exact absurd rfl hadd

/-- The line of 30_encoding.md R85 by which a code is selected. -/
theorem nextUop_some_cases {s : State} {c : BitVec 8} (h : nextUop s = some c) :
    s.err = false ∧
    ((s.engPhase = .run ∧ c = stepCode s.t) ∨
     (s.engPhase = .add ∧ c = 0xB0) ∨
     (s.engPhase = .idle ∧ s.fill = 64 ∧ c = 0xBF) ∨
     (s.engPhase = .idle ∧ s.fill ≠ 64 ∧
       ((s.padPhase = .mark ∧ c = 0x00) ∨ (s.padPhase = .zero ∧ c = 0x01) ∨ (s.padPhase = .len ∧ c = 0x02) ∨
        (s.padPhase = .done ∧ s.digValid = false ∧ c = 0xC0)))) := by
  unfold nextUop at h
  split_ifs at h with herr hrun hadd hfull hmark hzero hlen hdone <;> cases h <;>
    refine ⟨eq_false_of_ne_true herr, ?_⟩
  · exact .inl ⟨hrun, rfl⟩
  · exact .inr (.inl ⟨hadd, rfl⟩)
  · exact .inr (.inr (.inl ⟨hfull.1, hfull.2, rfl⟩))
  all_goals
    have hidle := EngPhase.eq_idle hrun hadd
    refine .inr (.inr (.inr ⟨hidle, fun hfill => hfull ⟨hidle, hfill⟩, ?_⟩))
  · exact .inl ⟨hmark, rfl⟩
  · exact .inr (.inl ⟨hzero, rfl⟩)
  · exact .inr (.inr (.inl ⟨hlen, rfl⟩))
  · exact .inr (.inr (.inr ⟨hdone.1, hdone.2, rfl⟩))

/-- In a core that accepts a command the engine is idle and the buffer is not full. -/
theorem State.idle_of_cmdReady {s : State} (h : s.cmdReady = true) : s.engPhase = .idle ∧ s.fill ≠ 64 := by
  obtain ⟨hnone, herr⟩ := State.cmdReady_iff.1 h
  simp only [nextUop, herr, Bool.false_eq_true, if_false] at hnone
  split_ifs at hnone with hrun hadd hfull
  all_goals
    have hidle := EngPhase.eq_idle hrun hadd
    exact ⟨hidle, fun hfill => hfull ⟨hidle, hfill⟩⟩

/-- A step with a reset at the port performs it. -/
theorem step_of_reset {s : State} {rest : List HostAct} (h : s.host = .reset :: rest) :
    step s = .next (s.opened rest).hardReset := by
  simp only [step, slot_reset h]

/-- A step of a busy core performs the selected micro-operation. -/
theorem step_of_nextUop {s : State} {c : BitVec 8} {i : Instr} (hr : s.host.head? ≠ some .reset)
    (hn : nextUop s = some c) (hd : decodeUop c = .ok i) (ht : s.engPhase = .run → s.t < 48) :
    step s = exec i (s.opened (untransferred s.host)) := by
  have hstep : ¬(s.engPhase = .run ∧ 48 ≤ s.t) := fun ⟨hrun, hle⟩ => BitVec.not_le.2 (ht hrun) hle
  simp only [step, slot_of_not_reset hr, unresetSlot, hn, sequencerSlot, State.opened_engPhase, State.opened_t,
    if_neg hstep, hd]

/-- A word at the port is no reset. -/
theorem head_ne_reset_of_presented {h : List HostAct} {w : BitVec 10} (hp : presented h = some w) :
    h.head? ≠ some .reset := by
  intro hreset
  obtain ⟨rest, rfl⟩ := List.head?_eq_some_iff.1 hreset
  cases hp

/-- A step of a ready core with a word at the port accepts the word. -/
theorem slot_of_presented {s : State} {w : BitVec 10} (hready : s.cmdReady = true)
    (hp : presented s.host = some w) : slot s = accept w (s.opened s.host.tail) := by
  obtain ⟨hnone, herr⟩ := State.cmdReady_iff.1 hready
  simp only [slot_of_not_reset (head_ne_reset_of_presented hp), unresetSlot, hnone, herr, readySlot, hp,
    Bool.false_eq_true, if_false]

/-- A legal word in a ready core is performed. -/
theorem step_of_accepted {s : State} {w : BitVec 10} {i : Instr} (hready : s.cmdReady = true)
    (hp : presented s.host = some w) (hd : decodeCmd w = .ok i) : step s = exec i (s.opened s.host.tail) := by
  simp only [step, slot_of_presented hready hp, accept, hd]

/-- A reserved word in a ready core is taken and faults. -/
theorem step_of_reserved {s : State} {w : BitVec 10} {e : DecodeError} (hready : s.cmdReady = true)
    (hp : presented s.host = some w) (hd : decodeCmd w = .error e) :
    step s = .next ((s.opened s.host.tail).raiseFault .illegalCommand) := by
  simp only [step, slot_of_presented hready hp, accept, hd]

/-- A ready core with neither a word nor a reset at the port lets the slot pass. -/
theorem step_of_not_presented {s : State} (hr : s.host.head? ≠ some .reset) (hready : s.cmdReady = true)
    (hp : presented s.host = none) : step s = .next (s.opened (untransferred s.host)) := by
  obtain ⟨hnone, herr⟩ := State.cmdReady_iff.1 hready
  simp only [step, slot_of_not_reset hr, unresetSlot, hnone, herr, readySlot, hp, Bool.false_eq_true, if_false]

/-- A faulted core with no reset at the port leaves the slot to the host. -/
theorem slot_of_faulted {s : State} (hr : s.host.head? ≠ some .reset) (herr : s.err = true) :
    slot s = faultedSlot s := by
  simp only [slot_of_not_reset hr, unresetSlot, nextUop_of_err herr, herr, if_true]

/-- A faulted core stops where its host is quiet. -/
theorem step_of_faulted_quiet {s : State} (herr : s.err = true) (hq : HostQuiet s) :
    step s = .fault (Fault.ofCode s.errCode) := by
  rcases hq with hhost | ⟨w, rest, hhost⟩ <;>
    simp [step, slot_of_faulted (by simp [hhost]) herr, faultedSlot, hhost]

/-- A faulted core lets a slot pass in which the host does something else than keep a word presented. -/
theorem step_of_faulted_passing {s : State} {a : HostAct} {rest : List HostAct} (herr : s.err = true)
    (hhost : s.host = a :: rest) (hreset : a ≠ .reset) (hhold : ∀ w, a ≠ .hold w) :
    step s = .next (s.opened rest) := by
  have hslot := slot_of_faulted (by simpa [hhost] using hreset) herr
  cases a with
  | reset => exact absurd rfl hreset
  | hold w => exact absurd rfl (hhold w)
  | offer w => simp only [step, hslot, faultedSlot, hhost]
  | pause => simp only [step, hslot, faultedSlot, hhost]

end Sys2Proof.Machine

/-! From a good state every step has a rule (00_scope.md R13, 60_exceptions.md R246). -/

namespace Sys2Proof.Machine

/-- An operation answers a next state when its index operands are in range and the byte it may emit has room. -/
theorem exec_answers_next {i : Instr} {s : State} (hwf : WellFormed i)
    (hroom : i.emitsByte = true → s.fill.toNat < 64) : ∃ u, exec i s = .next u := by
  cases i with
  | data b =>
    simp only [exec, execData]
    split
    · exact ⟨_, State.ifRoom_of_lt _ (hroom rfl)⟩
    · exact ⟨_, rfl⟩
  | final =>
    simp only [exec, execFinal]
    split <;> exact ⟨_, rfl⟩
  | rdd n =>
    have hn : n < Config.digestBytes := of_decide_eq_true hwf
    simp only [exec, execRdd, if_pos hn]
    split <;> exact ⟨_, rfl⟩
  | rdh n u =>
    have hn : n < 2 * Config.digestBytes := of_decide_eq_true hwf
    simp only [exec, execRdh, if_pos hn]
    split <;> exact ⟨_, rfl⟩
  | padMark => exact ⟨_, State.ifRoom_of_lt _ (hroom rfl)⟩
  | padZero => exact ⟨_, State.ifRoom_of_lt _ (hroom rfl)⟩
  | padLen => exact ⟨_, State.ifRoom_of_lt _ (hroom rfl)⟩
  | _ => exact ⟨_, rfl⟩

/-- A buffer that is not full has room. -/
theorem Invariants.fill_lt {s : State} (hI : Invariants s) (h : s.fill ≠ 64) : s.fill.toNat < 64 :=
  lt_of_le_of_ne hI.i2 fun heq => h (BitVec.eq_of_toNat_eq heq)

/-- Only steps that exist are selected. -/
theorem Invariants.t_lt {s : State} (hI : Invariants s) : s.t < 48 :=
  BitVec.lt_def.2 (Nat.lt_succ_of_le hI.i4.1)

/-- The selected code is assigned, and where it emits a byte the buffer has room. -/
theorem Invariants.selected_decodes {s : State} (hI : Invariants s) {c : BitVec 8} (h : nextUop s = some c) :
    ∃ i, decodeUop c = .ok i ∧ (i.emitsByte = true → s.fill.toNat < 64) := by
  obtain ⟨-, ⟨-, rfl⟩ | ⟨-, rfl⟩ | ⟨-, -, rfl⟩ | ⟨-, hfill, hpad⟩⟩ := nextUop_some_cases h
  · obtain ⟨i, hi⟩ := decodeUop_stepCode_isOk hI.t_lt
    exact ⟨i, hi, fun hemits => absurd (code_le_of_emitsByte hi hemits) (not_stepCode_le s.t)⟩
  · exact ⟨.engCombine, rfl, nofun⟩
  · exact ⟨.engSave, rfl, nofun⟩
  · have hroom := hI.fill_lt hfill
    obtain ⟨-, rfl⟩ | ⟨-, rfl⟩ | ⟨-, rfl⟩ | ⟨-, -, rfl⟩ := hpad
    · exact ⟨.padMark, rfl, fun _ => hroom⟩
    · exact ⟨.padZero, rfl, fun _ => hroom⟩
    · exact ⟨.padLen, rfl, fun _ => hroom⟩
    · exact ⟨.serLatch, rfl, fun _ => hroom⟩

/-- From a good state a selected micro-operation answers a next state. -/
theorem Invariants.step_next_of_nextUop {s : State} (hI : Invariants s) (hr : s.host.head? ≠ some .reset)
    {c : BitVec 8} (h : nextUop s = some c) : ∃ u, step s = .next u := by
  obtain ⟨i, hi, hroom⟩ := hI.selected_decodes h
  rw [step_of_nextUop hr h hi fun _ => hI.t_lt]
  exact exec_answers_next (wellFormed_of_decodeUop hi) hroom

/-- From a good ready state the step answers a next state, whatever the host does. -/
theorem Invariants.step_next_of_cmdReady {s : State} (hI : Invariants s) (hr : s.host.head? ≠ some .reset)
    (hready : s.cmdReady = true) : ∃ u, step s = .next u := by
  cases hp : presented s.host with
  | none => exact ⟨_, step_of_not_presented hr hready hp⟩
  | some w =>
    cases hd : decodeCmd w with
    | error e => exact ⟨_, step_of_reserved hready hp hd⟩
    | ok i =>
      rw [step_of_accepted hready hp hd]
      exact exec_answers_next (wellFormed_of_decodeCmd hd) fun _ => hI.fill_lt (State.idle_of_cmdReady hready).2

/-- A recorded cause has a name. -/
theorem Fault.ofCode_ne_noCause {c : BitVec 2} (h : c ≠ 0) : Fault.ofCode c ≠ .noCause := by
  revert c
  decide

/-- In a good faulted state the cause is recorded. -/
theorem Invariants.errCode_ne_zero {s : State} (hI : Invariants s) (herr : s.err = true) : s.errCode ≠ 0 :=
  fun hcode => Bool.false_ne_true ((hI.i12.2 hcode).symm.trans herr)

/-- A host that is not quiet has an action that is no held word. -/
theorem host_cases_of_not_quiet {s : State} (h : ¬HostQuiet s) :
    ∃ a rest, s.host = a :: rest ∧ ∀ w, a ≠ .hold w := by
  cases hhost : s.host with
  | nil => exact absurd (.inl hhost) h
  | cons a rest => exact ⟨a, rest, rfl, fun w ha => h (.inr ⟨w, rest, ha ▸ hhost⟩)⟩

/-- Settles O50: a reset is performed; else a selected micro-operation or the port of a ready core answers a next state; else
the core is faulted, and stops exactly where its host is quiet. -/
theorem everyStepHasARule : Obligations.EveryStepHasARule := by
  intro s hI
  by_cases hr : s.host.head? = some .reset
  · obtain ⟨rest, hhost⟩ := List.head?_eq_some_iff.1 hr
    exact .inl ⟨_, step_of_reset hhost⟩
  cases hn : nextUop s with
  | some c => exact .inl (hI.step_next_of_nextUop hr hn)
  | none =>
    cases herr : s.err with
    | false => exact .inl (hI.step_next_of_cmdReady hr (State.cmdReady_iff.2 ⟨hn, herr⟩))
    | true =>
      by_cases hq : HostQuiet s
      · exact .inr ⟨rfl, hq, _, step_of_faulted_quiet herr hq, Fault.ofCode_ne_noCause (hI.errCode_ne_zero herr)⟩
      · obtain ⟨a, rest, hhost, hhold⟩ := host_cases_of_not_quiet hq
        exact .inl ⟨_, step_of_faulted_passing herr hhost (by simpa [hhost] using hr) hhold⟩

end Sys2Proof.Machine

/-! What a performed operation does to the state, said once for all fifty-nine (00_scope.md R7). -/

namespace Sys2Proof.Machine

/-- What INIT leaves: the reset state with the fault record, the host and the response as they were (44_host_commands.md R216). -/
def State.restart (s : State) : State :=
  { State.reset with err := s.err, errCode := s.errCode, host := s.host, rsp := s.rsp }

/-- A byte of the padding emitted, and where the padder goes then (40_padder.md R102 to R104). -/
def State.padTo (s : State) (b : Byte) (p : PadPhase) (l : BitVec 3) : State :=
  { s.padEmit b with padPhase := p, lenIdx := l }

/-- `Effect s i u`: operation `i`, performed in `s`, has `u` as its next state. One constructor for each way an operation can
end well or fault; the forty-eight steps share one, the general rule of 42_compression_engine.md R135. -/
inductive Effect (s : State) : Instr → State → Prop where
  | init : Effect s .init s.restart
  | data (b : Byte) (hopen : s.padPhase = .msg) (hroom : s.fill.toNat < 64) : Effect s (.data b) (s.padAbsorb b)
  | dataClosed (b : Byte) (hclosed : s.padPhase ≠ .msg) : Effect s (.data b) (s.raiseFault .protocolError)
  | final (hopen : s.padPhase = .msg) : Effect s .final s.padFinal
  | finalClosed (hclosed : s.padPhase ≠ .msg) : Effect s .final (s.raiseFault .protocolError)
  | rdd (n : Nat) (hn : n < 16) (hvalid : s.digValid = true) : Effect s (.rdd n) (s.respond (rdDigest s.DG n))
  | rddInvalid (n : Nat) (hn : n < 16) (hinvalid : s.digValid = false) :
      Effect s (.rdd n) (s.raiseFault .digestNotValid)
  | rdh (n : Nat) (c : Bool) (hn : n < 32) (hvalid : s.digValid = true) :
      Effect s (.rdh n c) (s.respond (hexChar s.DG n c))
  | rdhInvalid (n : Nat) (c : Bool) (hn : n < 32) (hinvalid : s.digValid = false) :
      Effect s (.rdh n c) (s.raiseFault .digestNotValid)
  | padMark (hroom : s.fill.toNat < 64) :
      Effect s .padMark (s.padTo 0x80 (if s.pos + 1 = 56 then .len else .zero) s.lenIdx)
  | padZero (hroom : s.fill.toNat < 64) :
      Effect s .padZero (s.padTo 0x00 (if s.pos + 1 = 56 then .len else s.padPhase) s.lenIdx)
  | padLen (hroom : s.fill.toNat < 64) :
      Effect s .padLen (s.padTo (byteOf s.bitlen s.lenIdx.toNat) (if s.lenIdx = 7 then .done else s.padPhase)
        (if s.lenIdx = 7 then 0 else s.lenIdx + 1))
  | step {i : Instr} (n : BitVec 6) (hi : stepIndex i = some n) : Effect s i (s.stepByTables n)
  | engSave : Effect s .engSave { s with AA := s.A, BB := s.B, CC := s.C, DD := s.D, t := 0, engPhase := .run }
  | engCombine : Effect s .engCombine
      { s.schedClear with
        A := add32 s.A s.AA, B := add32 s.B s.BB, C := add32 s.C s.CC, D := add32 s.D s.DD, engPhase := .idle }
  | serLatch : Effect s .serLatch { s with DG := s.DG.writeBytes 0 (ser s.A s.B s.C s.D), digValid := true }

/-- Every step operation is the general rule at its index. -/
theorem exec_of_stepIndex {i : Instr} {n : BitVec 6} (h : stepIndex i = some n) (s : State) :
    exec i s = .next (s.stepByTables n) := by
  cases i with
  | init | data | final | rdd | rdh | padMark | padZero | padLen | engCombine | engSave | serLatch => cases h
  | _ => obtain rfl := Option.some.inj h; rfl

/-- PAD.ZERO with its phase written as one value. -/
theorem exec_padZero (s : State) :
    exec .padZero s = s.ifRoom (s.padTo 0x00 (if s.pos + 1 = 56 then .len else s.padPhase) s.lenIdx) := by
  refine congrArg s.ifRoom ?_
  by_cases hpos : s.pos + 1 = 56
  · exact (if_pos hpos).trans (by rw [if_pos hpos]; rfl)
  · exact (if_neg hpos).trans (by rw [if_neg hpos]; rfl)

/-- PAD.LEN with its phase and its index each written as one value. -/
theorem exec_padLen (s : State) :
    exec .padLen s = s.ifRoom (s.padTo (byteOf s.bitlen s.lenIdx.toNat)
      (if s.lenIdx = 7 then .done else s.padPhase) (if s.lenIdx = 7 then 0 else s.lenIdx + 1)) := by
  refine congrArg s.ifRoom ?_
  by_cases hlast : s.lenIdx = 7
  · exact (if_pos hlast).trans (by rw [if_pos hlast, if_pos hlast]; rfl)
  · exact (if_neg hlast).trans (by rw [if_neg hlast, if_neg hlast]; rfl)

/-- A performed operation has the effect of one of the constructors. -/
theorem effect_of_exec {i : Instr} {s u : State} (h : exec i s = .next u) : Effect s i u := by
  cases i with
  | init => obtain rfl := Host.Outcome.next.inj h; exact .init
  | data b =>
    simp only [exec, execData] at h
    split at h
    · next hopen =>
      obtain ⟨hroom, rfl⟩ := State.ifRoom_next.1 h
      exact .data b hopen hroom
    · next hclosed => cases h; exact .dataClosed b hclosed
  | final =>
    simp only [exec, execFinal] at h
    split at h <;> cases h
    · next hopen => exact .final hopen
    · next hclosed => exact .finalClosed hclosed
  | rdd n =>
    simp only [exec, execRdd] at h
    split_ifs at h with hn hvalid <;> cases h
    · exact .rdd n hn hvalid
    · exact .rddInvalid n hn (eq_false_of_ne_true hvalid)
  | rdh n c =>
    simp only [exec, execRdh] at h
    split_ifs at h with hn hvalid <;> cases h
    · exact .rdh n c hn hvalid
    · exact .rdhInvalid n c hn (eq_false_of_ne_true hvalid)
  | padMark =>
    obtain ⟨hroom, rfl⟩ := State.ifRoom_next.1 h
    exact .padMark hroom
  | padZero =>
    rw [exec_padZero] at h
    obtain ⟨hroom, rfl⟩ := State.ifRoom_next.1 h
    exact .padZero hroom
  | padLen =>
    rw [exec_padLen] at h
    obtain ⟨hroom, rfl⟩ := State.ifRoom_next.1 h
    exact .padLen hroom
  | engSave => obtain rfl := Host.Outcome.next.inj h; exact .engSave
  | engCombine => obtain rfl := Host.Outcome.next.inj h; exact .engCombine
  | serLatch => obtain rfl := Host.Outcome.next.inj h; exact .serLatch
  | _ =>
    rw [exec_of_stepIndex rfl] at h
    obtain rfl := Host.Outcome.next.inj h
    exact .step _ rfl

/-- Each constructor is an effect the operation has. -/
theorem Effect.exec_eq {i : Instr} {s u : State} (h : Effect s i u) : exec i s = .next u := by
  cases h with
  | init => rfl
  | data b hopen hroom => simp only [exec, execData, if_pos hopen, State.ifRoom_of_lt _ hroom]
  | dataClosed b hclosed => simp only [exec, execData, if_neg hclosed]
  | final hopen => simp only [exec, execFinal, if_pos hopen]
  | finalClosed hclosed => simp only [exec, execFinal, if_neg hclosed]
  | rdd n hn hvalid => simp [exec, execRdd, Config.digestBytes, hn, hvalid]
  | rddInvalid n hn hinvalid => simp [exec, execRdd, Config.digestBytes, hn, hinvalid]
  | rdh n c hn hvalid => simp [exec, execRdh, Config.digestBytes, hn, hvalid]
  | rdhInvalid n c hn hinvalid => simp [exec, execRdh, Config.digestBytes, hn, hinvalid]
  | padMark hroom => exact State.ifRoom_of_lt _ hroom
  | padZero hroom => exact (exec_padZero s).trans (State.ifRoom_of_lt _ hroom)
  | padLen hroom => exact (exec_padLen s).trans (State.ifRoom_of_lt _ hroom)
  | step n hi => exact exec_of_stepIndex hi s
  | engSave => rfl
  | engCombine => rfl
  | serLatch => rfl

/-- A step that is not the last writes its one register and names the next step. -/
theorem State.stepByTables_of_ne {n : BitVec 6} (hn : n ≠ 47) (s : State) :
    ∃ v, s.stepByTables n = (s.setReg (tgt (n.extractLsb' 0 2).toNat) v).thenStep (n + 1) :=
  ⟨_, if_neg hn⟩

/-- The last step writes B and hands over to ENG.COMBINE. -/
theorem State.stepByTables_last (s : State) : ∃ v, s.stepByTables 47 = (s.setReg .B v).thenCombine :=
  ⟨_, rfl⟩

end Sys2Proof.Machine

/-! The writers of each state element (10_state.md R20 to R22, R27, R31 to R33). -/

namespace Sys2Proof.Machine

/-- The frame of a step: the Digest State and the sequencer fields are written, with `eng_phase` and `t` as
42_compression_engine.md R135 says, and no other element. -/
theorem State.stepByTables_frame (s : State) (n : BitVec 6) : ∃ A B C D, s.stepByTables n =
    { s with A := A, B := B, C := C, D := D
             engPhase := if n = 47 then .add else s.engPhase, t := if n = 47 then 0 else n + 1 } := by
  have hwrite : ∀ v, ∃ A B C D,
      s.setReg (tgt (n.extractLsb' 0 2).toNat) v = { s with A := A, B := B, C := C, D := D } := by
    intro v
    cases tgt (n.extractLsb' 0 2).toNat <;> exact ⟨_, _, _, _, rfl⟩
  by_cases hn : n = 47
  · obtain ⟨v, hv⟩ := s.stepByTables_last
    exact ⟨_, _, _, _, by rw [if_pos hn, if_pos hn, hn, hv]; rfl⟩
  · obtain ⟨v, hv⟩ := s.stepByTables_of_ne hn
    obtain ⟨A, B, C, D, hreg⟩ := hwrite v
    exact ⟨A, B, C, D, by rw [if_neg hn, if_neg hn, hv, hreg]; rfl⟩

/-- A step writes only its target register of the Digest State (42_compression_engine.md R134). -/
theorem State.getReg_stepByTables_of_ne {q : Reg} {n : BitVec 6} (hq : q ≠ tgt (n.extractLsb' 0 2).toNat) (s : State) :
    (s.stepByTables n).getReg q = s.getReg q := by
  by_cases hn : n = 47
  · subst hn
    obtain ⟨v, hv⟩ := s.stepByTables_last
    rw [hv]
    exact s.getReg_setReg_other .B q v hq
  · obtain ⟨v, hv⟩ := s.stepByTables_of_ne hn
    rw [hv]
    exact s.getReg_setReg_other _ q v hq

/-- The four step indices mod 4 have four different targets (42_compression_engine.md R134). -/
theorem tgt_injective {j k : BitVec 2} (h : tgt j.toNat = tgt k.toNat) : j = k := by
  revert j k
  decide

/-- Only one step has the last index. -/
theorem eq_step47_of_stepIndex {i : Instr} (h : stepIndex i = some 47) : i = .step47 := by
  cases i with
  | step47 => rfl
  | data | rdd | rdh => cases h
  | _ => exact absurd h (by decide)

namespace Effect

variable {s u : State} {i : Instr}

theorem padPhase_frame (h : Effect s i u) :
    (i = .init ∨ i = .final ∨ i = .padMark ∨ i = .padZero ∨ i = .padLen) ∨ u.padPhase = s.padPhase := by
  cases h with
  | init | final | padMark | padZero | padLen => exact .inl (by simp)
  | step n hi => obtain ⟨A, B, C, D, hstep⟩ := s.stepByTables_frame n; exact .inr (by rw [hstep])
  | _ => exact .inr rfl

theorem lenIdx_frame (h : Effect s i u) : (i = .init ∨ i = .padLen) ∨ u.lenIdx = s.lenIdx := by
  cases h with
  | init | padLen => exact .inl (by simp)
  | step n hi => obtain ⟨A, B, C, D, hstep⟩ := s.stepByTables_frame n; exact .inr (by rw [hstep])
  | _ => exact .inr rfl

/-- Of the steps only the last changes the engine's phase. -/
theorem engPhase_frame (h : Effect s i u) :
    (i = .init ∨ i = .engSave ∨ i = .step47 ∨ i = .engCombine) ∨ u.engPhase = s.engPhase := by
  cases h with
  | init | engSave | engCombine => exact .inl (by simp)
  | step n hi =>
    by_cases hn : n = 47
    · exact .inl (.inr (.inr (.inl (eq_step47_of_stepIndex (hn ▸ hi)))))
    · obtain ⟨A, B, C, D, hstep⟩ := s.stepByTables_frame n
      exact .inr ((congrArg State.engPhase hstep).trans (if_neg hn))
  | _ => exact .inr rfl

theorem t_frame (h : Effect s i u) : (i = .init ∨ i = .engSave ∨ (stepIndex i).isSome = true) ∨ u.t = s.t := by
  cases h with
  | init | engSave => exact .inl (by simp)
  | step n hi => exact .inl (.inr (.inr (Option.isSome_iff_exists.2 ⟨n, hi⟩)))
  | _ => exact .inr rfl

/-- A step leaves `t` at the next step, the last one at 0. -/
theorem t_of_stepIndex (h : Effect s i u) {n : BitVec 6} (hi : stepIndex i = some n) :
    u.t = if n = 47 then 0 else n + 1 := by
  obtain rfl := Host.Outcome.next.inj ((exec_of_stepIndex hi s).symm.trans h.exec_eq)
  obtain ⟨A, B, C, D, hstep⟩ := s.stepByTables_frame n
  exact congrArg State.t hstep

/-- A register of the Digest State is written by the steps whose target it is. -/
theorem getReg_frame (h : Effect s i u) (q : Reg) :
    (i = .init ∨ i = .engCombine ∨ ∃ n, stepIndex i = some n ∧ q = tgt (n.extractLsb' 0 2).toNat) ∨
      u.getReg q = s.getReg q := by
  cases h with
  | init | engCombine => exact .inl (by simp)
  | step n hi =>
    by_cases hq : q = tgt (n.extractLsb' 0 2).toNat
    · exact .inl (.inr (.inr ⟨n, hi, hq⟩))
    · exact .inr (s.getReg_stepByTables_of_ne hq)
  | _ => exact .inr rfl

theorem savedState_frame (h : Effect s i u) :
    (i = .init ∨ i = .engSave) ∨ (u.AA = s.AA ∧ u.BB = s.BB ∧ u.CC = s.CC ∧ u.DD = s.DD) := by
  cases h with
  | init | engSave => exact .inl (by simp)
  | step n hi => obtain ⟨A, B, C, D, hstep⟩ := s.stepByTables_frame n; exact .inr (by simp [hstep])
  | _ => exact .inr ⟨rfl, rfl, rfl, rfl⟩

theorem block_frame (h : Effect s i u) :
    ((∃ b, i = .data b) ∨ i = .padMark ∨ i = .padZero ∨ i = .padLen ∨ i = .engCombine ∨ i = .init) ∨
      (u.BLK = s.BLK ∧ u.fill = s.fill) := by
  cases h with
  | init | data | padMark | padZero | padLen | engCombine => exact .inl (by simp)
  | step n hi => obtain ⟨A, B, C, D, hstep⟩ := s.stepByTables_frame n; exact .inr (by simp [hstep])
  | _ => exact .inr ⟨rfl, rfl⟩

theorem pos_frame (h : Effect s i u) :
    ((∃ b, i = .data b) ∨ i = .padMark ∨ i = .padZero ∨ i = .padLen ∨ i = .init) ∨ u.pos = s.pos := by
  cases h with
  | init | data | padMark | padZero | padLen => exact .inl (by simp)
  | step n hi => obtain ⟨A, B, C, D, hstep⟩ := s.stepByTables_frame n; exact .inr (by rw [hstep])
  | _ => exact .inr rfl

theorem bitlen_frame (h : Effect s i u) : ((∃ b, i = .data b) ∨ i = .init) ∨ u.bitlen = s.bitlen := by
  cases h with
  | init | data => exact .inl (by simp)
  | step n hi => obtain ⟨A, B, C, D, hstep⟩ := s.stepByTables_frame n; exact .inr (by rw [hstep])
  | _ => exact .inr rfl

theorem digest_frame (h : Effect s i u) :
    (i = .serLatch ∨ i = .init) ∨ (u.DG = s.DG ∧ u.digValid = s.digValid) := by
  cases h with
  | init | serLatch => exact .inl (by simp)
  | step n hi => obtain ⟨A, B, C, D, hstep⟩ := s.stepByTables_frame n; exact .inr (by simp [hstep])
  | _ => exact .inr ⟨rfl, rfl⟩

theorem fault_frame (h : Effect s i u) :
    ((∃ b, i = .data b) ∨ i = .final ∨ (∃ n, i = .rdd n) ∨ ∃ n c, i = .rdh n c) ∨
      (u.err = s.err ∧ u.errCode = s.errCode) := by
  cases h with
  | dataClosed | finalClosed | rddInvalid | rdhInvalid => exact .inl (by simp)
  | step n hi => obtain ⟨A, B, C, D, hstep⟩ := s.stepByTables_frame n; exact .inr (by simp [hstep])
  | _ => exact .inr ⟨rfl, rfl⟩

/-- No operation touches what the host does next. -/
theorem host_eq (h : Effect s i u) : u.host = s.host := by
  cases h with
  | step n hi => obtain ⟨A, B, C, D, hstep⟩ := s.stepByTables_frame n; rw [hstep]
  | _ => rfl

/-- The register of step index mod 4 is written by the steps of that index mod 4. -/
theorem getReg_tgt_frame (h : Effect s i u) (j : BitVec 2) (hne : u.getReg (tgt j.toNat) ≠ s.getReg (tgt j.toNat)) :
    i = .init ∨ i = .engCombine ∨ ∃ n, stepIndex i = some n ∧ n.extractLsb' 0 2 = j := by
  obtain hinit | hcombine | ⟨n, hi, htgt⟩ := (h.getReg_frame (tgt j.toNat)).resolve_right hne
  · exact .inl hinit
  · exact .inr (.inl hcombine)
  · exact .inr (.inr ⟨n, hi, (tgt_injective htgt).symm⟩)

end Effect

/-- Settles O35: each field's clause is the frame lemma of that field. -/
theorem sequencerStateMovesOnlyAsListed : Obligations.SequencerStateMovesOnlyAsListed := by
  intro i s u h
  have heff := effect_of_exec h
  exact ⟨heff.padPhase_frame.resolve_right, heff.lenIdx_frame.resolve_right, heff.engPhase_frame.resolve_right,
    heff.t_frame.resolve_right, fun _ => heff.t_of_stepIndex⟩

/-- Settles O36: `TGT` names A, D, C, B for the step indices 0, 1, 2, 3 mod 4. -/
theorem registersChangeOnlyByTheirWriters : Obligations.RegistersChangeOnlyByTheirWriters := by
  intro i s u h
  have heff := effect_of_exec h
  refine ⟨heff.getReg_tgt_frame 0, heff.getReg_tgt_frame 1, heff.getReg_tgt_frame 2, heff.getReg_tgt_frame 3, ?_⟩
  intro hne
  refine heff.savedState_frame.resolve_right fun ⟨hA, hB, hC, hD⟩ => ?_
  simp [hA, hB, hC, hD] at hne

/-- Settles O37: each element's clause is the frame lemma of that element. -/
theorem buffersChangeOnlyByTheirWriters : Obligations.BuffersChangeOnlyByTheirWriters := by
  intro i s u h
  have heff := effect_of_exec h
  exact ⟨fun hne => heff.block_frame.resolve_right fun ⟨hblk, hfill⟩ => hne.elim (· hblk) (· hfill),
    heff.pos_frame.resolve_right, heff.bitlen_frame.resolve_right,
    fun hne => heff.digest_frame.resolve_right fun ⟨hdg, hvalid⟩ => hne.elim (· hdg) (· hvalid),
    fun hne => heff.fault_frame.resolve_right fun ⟨herr, hcode⟩ => hne.elim (· herr) (· hcode),
    heff.host_eq⟩

end Sys2Proof.Machine

/-! The invariants of 10_state.md R36 are kept, operation by operation. Each lemma writes out the invariants the operation could
break; the others are those of the state before it. -/

namespace Sys2Proof.Machine

/-- I15 holds in every state: the conditions with their notes name different phases or fill levels. -/
theorem selectionLines_count_le (s : State) : (selectionLines s).count true ≤ 1 := by
  cases herr : s.err with
  | true => simp [selectionLines, herr]
  | false =>
    cases hphase : s.engPhase with
    | run => simp [selectionLines, herr, hphase]
    | add => simp [selectionLines, herr, hphase]
    | idle =>
      by_cases hfill : s.fill = 64
      · simp [selectionLines, herr, hphase, hfill]
      · cases hpad : s.padPhase <;>
          simp [selectionLines, herr, hphase, hpad, List.count_cons, show s.fill ≠ 64#7 from hfill] <;> split <;> simp

/-- I11 holds in every state: the phases are enumerations without the reserved codes (log 7). -/
theorem phase_codes_le (p : PadPhase) (e : EngPhase) : p.code ≤ 4 ∧ e.code ≤ 2 := by
  cases p <;> cases e <;> decide

theorem invariants_reset : Invariants State.reset := by
  constructor <;> decide

/-- Settles O47: no invariant reads what the host does next. -/
theorem resetStateMeetsTheInvariants : Obligations.ResetStateMeetsTheInvariants :=
  fun _ => { invariants_reset with }

/-- One more byte leaves the length in bits at whole bytes. -/
theorem add64_eight_low_bits (n : Word64) : (add64 n 8).extractLsb' 0 3 = n.extractLsb' 0 3 := by
  apply BitVec.eq_of_toNat_eq
  simp only [add64, BitVec.ofNat_eq_ofNat, BitVec.extractLsb'_toNat, BitVec.toNat_add, BitVec.toNat_ofNat, Nat.reducePow,
    Nat.reduceMod, Nat.shiftRight_zero, Nat.reduceDvd, Nat.mod_mod_of_dvd, Nat.add_mod_right]

/-- One more byte adds one to the length in bytes, of which `pos` is the low part (I6). -/
theorem add64_eight_byte_count (n : Word64) : (add64 n 8).extractLsb' 3 6 = n.extractLsb' 3 6 + 1 := by
  apply BitVec.eq_of_toNat_eq
  simp only [add64, BitVec.ofNat_eq_ofNat, BitVec.extractLsb'_toNat, BitVec.toNat_add, BitVec.toNat_ofNat]
  omega

/-- The serialisation word by word (43_digest_serializer.md R201). -/
theorem ser_getD (A B C D : Word) {j : Nat} (hj : j < 4) :
    (ser A B C D).getD j 0 = byteOf A j ∧ (ser A B C D).getD (4 + j) 0 = byteOf B j ∧
    (ser A B C D).getD (8 + j) 0 = byteOf C j ∧ (ser A B C D).getD (12 + j) 0 = byteOf D j := by
  interval_cases j <;> exact ⟨rfl, rfl, rfl, rfl⟩

namespace Invariants

variable {s : State}

/-- No invariant reads the host or the response. -/
theorem opened (hI : Invariants s) (h : List HostAct) : Invariants (s.opened h) := { hI with }

theorem respond (hI : Invariants s) (b : Byte) : Invariants (s.respond b) := { hI with }

/-- There is no digest before the padding is complete. -/
theorem digValid_of_padPhase (hI : Invariants s) (h : s.padPhase ≠ .done) : s.digValid = false :=
  eq_false_of_ne_true fun hvalid => h (hI.i8 hvalid).1

/-- There is no digest while a Block is compressed. -/
theorem digValid_of_engPhase (hI : Invariants s) (h : s.engPhase ≠ .idle) : s.digValid = false :=
  eq_false_of_ne_true fun hvalid => h (hI.i8 hvalid).2.2.1

/-- An accepted INIT leaves the fault record of a core that is not faulted. -/
theorem restart (hI : Invariants s) (herr : s.err = false) : Invariants s.restart :=
  { invariants_reset with
    i12 := hI.i12
    i14 := fun hfault => nomatch herr.symm.trans hfault
    i15 := selectionLines_count_le _ }

/-- A fault is taken only in a core that selects nothing, so nothing is selected behind it (I14). -/
theorem raiseFault (hI : Invariants s) (hready : s.cmdReady = true) (c : Cause) : Invariants (s.raiseFault c) := by
  obtain ⟨hnone, herr⟩ := State.cmdReady_iff.1 hready
  have hbehind : nextUop { s.raiseFault c with err := false } = nextUop s :=
    nextUop_congr herr.symm rfl rfl rfl rfl rfl
  have hcode : c.code ≠ 0 := by cases c <;> decide
  exact { hI with
    i12 := ⟨nofun, fun h => absurd h hcode⟩
    i14 := fun _ => ⟨rfl, hbehind.trans hnone⟩
    i15 := selectionLines_count_le _ }

/-- FINAL finds room in the buffer, as I13 asks of P_MARK. -/
theorem padFinal (hI : Invariants s) (hready : s.cmdReady = true) (hopen : s.padPhase = .msg) :
    Invariants s.padFinal := by
  obtain ⟨-, herr⟩ := State.cmdReady_iff.1 hready
  have hroom := hI.fill_lt (State.idle_of_cmdReady hready).2
  have hidx : s.lenIdx = 0 := hI.i7.1 (by simp [hopen])
  have hdig : s.digValid = false := hI.digValid_of_padPhase (by simp [hopen])
  exact { hI with
    i6 := nofun
    i7 := ⟨fun _ => hidx, nofun⟩
    i8 := fun hvalid => nomatch hdig.symm.trans hvalid
    i11 := phase_codes_le _ _
    i13 := ⟨fun _ => hroom, nofun⟩
    i14 := fun hfault => nomatch herr.symm.trans hfault
    i15 := selectionLines_count_le _ }

/-- A byte emitted by an idle, unfaulted core into a buffer with room: `pos` follows `fill` (I1), and the bytes beyond `fill`
stay zero (I10). What is asked of the new `bitlen`, phase and length index are the invariants that read them. -/
theorem emit (hI : Invariants s) (herr : s.err = false) (hidle : s.engPhase = .idle) (hroom : s.fill.toNat < 64)
    (hdig : s.digValid = false) (b : Byte) {n : Word64} {p : PadPhase} {l : BitVec 3}
    (h5 : n.extractLsb' 0 3 = 0) (h6 : p = .msg → s.pos + 1 = n.extractLsb' 3 6)
    (h7 : (p ≠ .len → l = 0) ∧ (p = .len → s.fill.toNat + 1 = 56 + l.toNat))
    (h13 : p ≠ .mark ∧ (p = .done → s.fill.toNat + 1 = 64)) :
    Invariants { s.padEmit b with bitlen := n, padPhase := p, lenIdx := l } := by
  have hfill : (s.fill + 1).toNat = s.fill.toNat + 1 := State.schedPut_fill_toNat hroom b
  exact { hI with
    i1 := by
      have hpos : (s.pos + 1).toNat = (s.pos.toNat + 1) % 64 := BitVec.toNat_add _ _
      rw [State.padEmit_pos, State.padEmit_fill, hpos, hfill, hI.i1]
      omega
    i2 := hfill.trans_le hroom
    i3 := fun hbusy => absurd hidle hbusy
    i5 := h5
    i6 := h6
    i7 := ⟨h7.1, fun hp => hfill.trans (h7.2 hp)⟩
    i8 := fun hvalid => nomatch hdig.symm.trans hvalid
    i10 := by
      intro q hq hle
      simp only [State.padEmit_fill, hfill] at hle
      rw [State.padEmit_BLK, Memory.read_write hI.blk_wf, if_neg (by omega)]
      exact hI.i10 q hq (by omega)
    i11 := phase_codes_le _ _
    i13 := ⟨fun hp => absurd hp h13.1, fun hp => .inr (BitVec.eq_of_toNat_eq (hfill.trans (h13.2 hp)))⟩
    i14 := fun hfault => nomatch herr.symm.trans hfault
    i15 := selectionLines_count_le _
    blk_wf := Memory.write_wf hroom hI.blk_wf }

/-- DATA appends one byte and counts it. -/
theorem padAbsorb (hI : Invariants s) (hready : s.cmdReady = true) (hopen : s.padPhase = .msg) (b : Byte) :
    Invariants (s.padAbsorb b) := by
  obtain ⟨-, herr⟩ := State.cmdReady_iff.1 hready
  obtain ⟨hidle, hfill⟩ := State.idle_of_cmdReady hready
  have hcount : s.pos + 1 = (add64 s.bitlen 8).extractLsb' 3 6 := by
    rw [add64_eight_byte_count, hI.i6 hopen]
  have hidx : s.lenIdx = 0 := hI.i7.1 (by simp [hopen])
  have hphase : ∀ p : PadPhase, p ≠ .msg → s.padPhase ≠ p := fun p hp h => hp (h.symm.trans hopen)
  exact hI.emit herr hidle (hI.fill_lt hfill) (hI.digValid_of_padPhase (hphase _ nofun)) b
    (h5 := (add64_eight_low_bits _).trans hI.i5)
    (h6 := fun _ => hcount)
    (h7 := ⟨fun _ => hidx, fun h => absurd h (hphase _ nofun)⟩)
    (h13 := ⟨hphase _ nofun, fun h => absurd h (hphase _ nofun)⟩)

/-- The zero bytes end at byte 56 of the Block, where the length field starts (40_padder.md R102, R103). -/
theorem padToZeros (hI : Invariants s) (herr : s.err = false) (hidle : s.engPhase = .idle) (hfill : s.fill ≠ 64)
    (hphase : s.padPhase = .mark ∨ s.padPhase = .zero) (b : Byte) :
    Invariants (s.padTo b (if s.pos + 1 = 56 then .len else .zero) s.lenIdx) := by
  have hroom := hI.fill_lt hfill
  have hidx : s.lenIdx = 0 := hI.i7.1 (by rcases hphase with h | h <;> simp [h])
  have hdig : s.digValid = false := hI.digValid_of_padPhase (by rcases hphase with h | h <;> simp [h])
  have hlen : s.pos + 1 = 56 → s.fill.toNat + 1 = 56 + s.lenIdx.toNat := by
    intro hpos
    have hpos' : (s.pos.toNat + 1) % 64 = 56 := (BitVec.toNat_add s.pos 1).symm.trans (congrArg BitVec.toNat hpos)
    have hidx' : s.lenIdx.toNat = 0 := congrArg BitVec.toNat hidx
    have := hI.i1
    omega
  by_cases hpos : s.pos + 1 = 56
  · rw [if_pos hpos]
    exact hI.emit herr hidle hroom hdig b hI.i5 nofun ⟨nofun, fun _ => hlen hpos⟩ ⟨nofun, nofun⟩
  · rw [if_neg hpos]
    exact hI.emit herr hidle hroom hdig b hI.i5 nofun ⟨fun _ => hidx, nofun⟩ ⟨nofun, nofun⟩

/-- Length byte 7 is the last byte of the Block (40_padder.md R104). -/
theorem padToLength (hI : Invariants s) (herr : s.err = false) (hidle : s.engPhase = .idle) (hfill : s.fill ≠ 64)
    (hphase : s.padPhase = .len) (b : Byte) :
    Invariants (s.padTo b (if s.lenIdx = 7 then .done else s.padPhase) (if s.lenIdx = 7 then 0 else s.lenIdx + 1)) := by
  have hroom := hI.fill_lt hfill
  have hdig : s.digValid = false := hI.digValid_of_padPhase (by simp [hphase])
  have hpos := hI.i7.2 hphase
  by_cases hlast : s.lenIdx = 7
  · have hfull : s.fill.toNat + 1 = 64 := by rw [hpos, hlast]; rfl
    rw [if_pos hlast, if_pos hlast]
    exact hI.emit herr hidle hroom hdig b hI.i5 nofun ⟨fun _ => rfl, nofun⟩ ⟨nofun, fun _ => hfull⟩
  · have hnext : s.fill.toNat + 1 = 56 + (s.lenIdx + 1).toNat := by
      have hlt : s.lenIdx.toNat ≠ 7 := fun h => hlast (BitVec.eq_of_toNat_eq h)
      have hadd : (s.lenIdx + 1).toNat = (s.lenIdx.toNat + 1) % 8 := BitVec.toNat_add _ _
      omega
    rw [if_neg hlast, if_neg hlast, hphase]
    exact hI.emit herr hidle hroom hdig b hI.i5 nofun ⟨nofun, fun _ => hnext⟩ ⟨nofun, nofun⟩

/-- ENG.SAVE starts the steps on a full buffer (I3). -/
theorem engSave (hI : Invariants s) (herr : s.err = false) (hfull : s.fill = 64) :
    Invariants { s with AA := s.A, BB := s.B, CC := s.C, DD := s.D, t := 0, engPhase := .run } := by
  have hdig : s.digValid = false := eq_false_of_ne_true fun hvalid => by simp [(hI.i8 hvalid).2.1] at hfull
  exact { hI with
    i3 := fun _ => hfull
    i4 := ⟨by simp, nofun⟩
    i8 := fun hvalid => nomatch hdig.symm.trans hvalid
    i11 := phase_codes_le _ _
    i14 := fun hfault => nomatch herr.symm.trans hfault
    i15 := selectionLines_count_le _ }

/-- A step names the next one, and the last one ends the run of steps with `t` at 0 (I4). -/
theorem stepByTables (hI : Invariants s) (herr : s.err = false) (hrun : s.engPhase = .run) :
    Invariants (s.stepByTables s.t) := by
  have hfull : s.fill = 64 := hI.i3 (by simp [hrun])
  have hdig : s.digValid = false := hI.digValid_of_engPhase (by simp [hrun])
  obtain ⟨A, B, C, D, hstep⟩ := s.stepByTables_frame s.t
  rw [hstep]
  exact { hI with
    i3 := fun _ => hfull
    i4 := by
      by_cases hlast : s.t = 47
      · simp [hlast]
      · have hlt : s.t.toNat ≠ 47 := fun h => hlast (BitVec.eq_of_toNat_eq h)
        have hnext : (s.t + 1).toNat = (s.t.toNat + 1) % 64 := BitVec.toNat_add _ _
        have hle : (s.t + 1).toNat ≤ 47 := by have := hI.i4.1; omega
        rw [if_neg hlast, if_neg hlast]
        exact ⟨hle, fun h => absurd hrun h⟩
    i8 := fun hvalid => nomatch hdig.symm.trans hvalid
    i11 := phase_codes_le _ _
    i14 := fun hfault => nomatch herr.symm.trans hfault
    i15 := selectionLines_count_le _ }

/-- ENG.COMBINE empties a full buffer: `pos`, the fill level mod 64, stays (I1), and no length byte is owed (I7). -/
theorem engCombine (hI : Invariants s) (herr : s.err = false) (hadd : s.engPhase = .add) :
    Invariants { s.schedClear with
      A := add32 s.A s.AA, B := add32 s.B s.BB, C := add32 s.C s.CC, D := add32 s.D s.DD, engPhase := .idle } := by
  have hfull : s.fill.toNat = 64 := congrArg BitVec.toNat (hI.i3 (by simp [hadd]))
  have hdig : s.digValid = false := hI.digValid_of_engPhase (by simp [hadd])
  have hpos : s.pos.toNat = 0 := hI.i1.trans (by rw [hfull])
  have hlen : s.padPhase ≠ .len := fun h => by
    have := hI.i7.2 h
    have := s.lenIdx.isLt
    omega
  exact { hI with
    i1 := hpos
    i2 := by simp
    i3 := fun h => absurd rfl h
    i4 := ⟨hI.i4.1, fun _ => hI.i4.2 (by simp [hadd])⟩
    i7 := ⟨hI.i7.1, fun h => absurd h hlen⟩
    i8 := fun hvalid => nomatch hdig.symm.trans hvalid
    i10 := fun _ _ _ => rfl
    i11 := phase_codes_le _ _
    i13 := ⟨fun _ => by simp, fun _ => .inl rfl⟩
    i14 := fun hfault => nomatch herr.symm.trans hfault
    i15 := selectionLines_count_le _
    blk_wf := rfl }

/-- SER.LATCH stores the Digest State byte by byte into `DG` (I8). -/
theorem serLatch (hI : Invariants s) (herr : s.err = false) (hidle : s.engPhase = .idle) (hfill : s.fill ≠ 64)
    (hdone : s.padPhase = .done) :
    Invariants { s with DG := s.DG.writeBytes 0 (ser s.A s.B s.C s.D), digValid := true } := by
  have hread : ∀ k < 16, (s.DG.writeBytes 0 (ser s.A s.B s.C s.D)).read k = (ser s.A s.B s.C s.D).getD k 0 :=
    fun k hk => (Memory.read_latch hI.dg_wf s.A s.B s.C s.D k).trans (if_pos hk)
  have hwf : (s.DG.writeBytes 0 (ser s.A s.B s.C s.D)).wf Config.digestBytes = true :=
    Memory.writeBytes_wf _ (by simp [Config.digestBytes]) hI.dg_wf
  generalize s.DG.writeBytes 0 (ser s.A s.B s.C s.D) = dg at hread hwf ⊢
  exact { hI with
    i8 := by
      refine fun _ => ⟨hdone, (hI.i13.2 hdone).resolve_right hfill, hidle, ?_⟩
      intro j hj
      rw [hread j (by omega), hread (4 + j) (by omega), hread (8 + j) (by omega), hread (12 + j) (by omega)]
      exact ser_getD s.A s.B s.C s.D hj
    i9 := nofun
    i14 := fun hfault => nomatch herr.symm.trans hfault
    i15 := selectionLines_count_le _
    dg_wf := hwf }

end Invariants

end Sys2Proof.Machine

/-! Every step, and so every run from reset, keeps the invariants of 10_state.md R36. -/

namespace Sys2Proof

/-- What a command word decodes to is a command. -/
theorem exists_cmd_of_decodeCmd {w : BitVec 10} {i : Instr} (h : decodeCmd w = .ok i) : ∃ v, encode i = .cmd v := by
  simp only [decodeCmd] at h
  split_ifs at h <;> cases h <;> exact ⟨_, rfl⟩

end Sys2Proof

namespace Sys2Proof.Machine

/-- The code selected while the engine runs is that of the step `t` names. -/
theorem stepIndex_of_decodeUop_stepCode {t : BitVec 6} {i : Instr} (ht : t < 48) (h : decodeUop (stepCode t) = .ok i) :
    stepIndex i = some t := by
  have hall : ∀ t : BitVec 6, t < 48 → (decodeUop (stepCode t)).toOption.bind stepIndex = some t := by decide
  simpa [h, Except.toOption] using hall t ht

/-- A selected micro-operation keeps the invariants, line by line of 30_encoding.md R85. -/
theorem Invariants.selected {s u : State} {c : BitVec 8} {i : Instr} (hI : Invariants s) (hn : nextUop s = some c)
    (hd : decodeUop c = .ok i) (h : exec i s = .next u) : Invariants u := by
  obtain ⟨herr, ⟨hrun, rfl⟩ | ⟨hadd, rfl⟩ | ⟨-, hfull, rfl⟩ | ⟨hidle, hfill, hpad⟩⟩ := nextUop_some_cases hn
  · obtain rfl := Host.Outcome.next.inj ((exec_of_stepIndex (stepIndex_of_decodeUop_stepCode hI.t_lt hd) s).symm.trans h)
    exact hI.stepByTables herr hrun
  · cases hd
    obtain rfl := Host.Outcome.next.inj h
    exact hI.engCombine herr hadd
  · cases hd
    obtain rfl := Host.Outcome.next.inj h
    exact hI.engSave herr hfull
  · obtain ⟨hphase, rfl⟩ | ⟨hphase, rfl⟩ | ⟨hphase, rfl⟩ | ⟨hphase, -, rfl⟩ := hpad
    · cases hd
      cases effect_of_exec h with
      | padMark => exact hI.padToZeros herr hidle hfill (.inl hphase) _
      | step n hi => cases hi
    · cases hd
      cases effect_of_exec h with
      | padZero => rw [hphase]; exact hI.padToZeros herr hidle hfill (.inr hphase) _
      | step n hi => cases hi
    · cases hd
      cases effect_of_exec h with
      | padLen => exact hI.padToLength herr hidle hfill hphase _
      | step n hi => cases hi
    · cases hd
      obtain rfl := Host.Outcome.next.inj h
      exact hI.serLatch herr hidle hfill hphase

/-- An accepted command keeps the invariants, whether it ends well or faults. -/
theorem Invariants.accepted {s u : State} {w : BitVec 10} {i : Instr} (hI : Invariants s) (hready : s.cmdReady = true)
    (hd : decodeCmd w = .ok i) (h : exec i s = .next u) : Invariants u := by
  obtain ⟨v, hcmd⟩ := exists_cmd_of_decodeCmd hd
  cases effect_of_exec h with
  | init => exact hI.restart (State.cmdReady_iff.1 hready).2
  | data b hopen => exact hI.padAbsorb hready hopen b
  | final hopen => exact hI.padFinal hready hopen
  | rdd | rdh => exact hI.respond _
  | dataClosed | finalClosed | rddInvalid | rdhInvalid => exact hI.raiseFault hready _
  | step n hi => simp [stepIndex, hcmd] at hi
  | padMark | padZero | padLen | engSave | engCombine | serLatch => cases hcmd

/-- Settles O48: the cases are those of what a step can do. -/
theorem stepKeepsTheInvariants : Obligations.StepKeepsTheInvariants := by
  intro s u hI h
  obtain ⟨rest, -, rfl⟩ | ⟨-, c, i, hn, -, hd, hexec⟩ | ⟨-, hready, w, i, -, hd, hexec⟩ | ⟨-, hready, w, e, -, -, rfl⟩ |
    ⟨-, -, -, rfl⟩ | ⟨-, a, rest, -, -, -, rfl⟩ := step_next_cases h
  · exact resetStateMeetsTheInvariants rest
  · exact (hI.opened _).selected ((nextUop_opened _ _).trans hn) hd hexec
  · exact (hI.opened _).accepted hready hd hexec
  · exact (hI.opened _).raiseFault hready _
  · exact hI.opened _
  · exact hI.opened _

/-- A run of any length keeps what every step keeps. -/
theorem run_keeps {P : State → Prop} (hstep : ∀ s u, P s → step s = .next u → P u) {k : Nat} {s u : State} (hs : P s)
    (h : Sys2Proof.core.run k s = .next u) : P u := by
  induction k generalizing s with
  | zero =>
    obtain rfl := Host.Outcome.next.inj h
    exact hs
  | succ k ih =>
    obtain ⟨v, hv, hrun⟩ := step_of_run_succ h
    exact ih (hstep s v hs hv) hrun

/-- Settles O49: the invariants hold at reset and every step keeps them. -/
theorem reachableStatesMeetTheInvariants : Obligations.ReachableStatesMeetTheInvariants :=
  fun h _ _ hrun => run_keeps stepKeepsTheInvariants (resetStateMeetsTheInvariants h) hrun

end Sys2Proof.Machine

/-! What the control part of a state decides (10_state.md R31, R35): the host's actions with the message bytes hidden, each
operation on two states with the same control, and the step. -/

namespace Sys2Proof.Machine

/-! ### The message byte of a DATA word is hidden -/

/-- A command word with the message byte of a DATA word hidden, as `HostAct.shape` does it. -/
def hideByte (w : BitVec 10) : BitVec 10 := if cmdOp w = 1 then 0x100 else w

/-- Hiding the message bytes leaves at the port the word with its byte hidden. -/
theorem presented_map_shape (h : List HostAct) : presented (h.map HostAct.shape) = (presented h).map hideByte := by
  cases h with
  | nil => rfl
  | cons a rest => cases a <;> rfl

/-- What the host keeps after a slot without a transfer does not depend on the message bytes. -/
theorem untransferred_map_shape (h : List HostAct) :
    untransferred (h.map HostAct.shape) = (untransferred h).map HostAct.shape := by
  cases h with
  | nil => rfl
  | cons a rest => cases a <;> rfl

theorem HostAct.shape_eq_reset {a : HostAct} : a.shape = .reset ↔ a = .reset := by
  cases a <;> simp [HostAct.shape]

theorem HostAct.shape_of_hold {a b : HostAct} {w : BitVec 10} (h : a.shape = b.shape) (hb : b = .hold w) :
    ∃ v, a = .hold v := by
  subst hb
  cases a with
  | hold v => exact ⟨v, rfl⟩
  | reset | offer | pause => cases h

theorem head_reset_map_shape (h : List HostAct) :
    (h.map HostAct.shape).head? = some .reset ↔ h.head? = some .reset := by
  simp [List.head?_map, HostAct.shape_eq_reset]

/-- A word of `op` 1 is DATA (30_encoding.md R82). -/
theorem decodeCmd_of_op_one {w : BitVec 10} (h : cmdOp w = 1) : decodeCmd w = .ok (.data (cmdArg w)) := by
  simp [decodeCmd, h]

/-- Two words that look alike with the message byte hidden are the same word or both DATA. -/
theorem eq_or_data_of_hideByte_eq {w v : BitVec 10} (h : hideByte w = hideByte v) :
    w = v ∨ ∃ b c, decodeCmd w = .ok (.data b) ∧ decodeCmd v = .ok (.data c) := by
  unfold hideByte at h
  have hdata : cmdOp 0x100 = 1 := rfl
  split_ifs at h with hw hv hv
  · exact .inr ⟨_, _, decodeCmd_of_op_one hw, decodeCmd_of_op_one hv⟩
  · exact absurd (h ▸ hdata) hv
  · exact absurd (h ▸ hdata) hw
  · exact .inl h

section SameShape

variable {h h' : List HostAct} (hh : h.map HostAct.shape = h'.map HostAct.shape)
include hh

/-- Two hosts of the same shape present a word together, and the words look alike. -/
theorem presented_some_of_same_shape {w : BitVec 10} (hp : presented h = some w) :
    ∃ v, presented h' = some v ∧ hideByte w = hideByte v := by
  have hwords := presented_map_shape h'
  rw [← hh, presented_map_shape, hp] at hwords
  obtain ⟨v, hv, hlike⟩ := Option.map_eq_some_iff.1 hwords.symm
  exact ⟨v, hv, hlike.symm⟩

theorem presented_none_of_same_shape (hp : presented h = none) : presented h' = none := by
  have hwords := presented_map_shape h'
  rw [← hh, presented_map_shape, hp] at hwords
  exact Option.map_eq_none_iff.1 hwords.symm

theorem untransferred_of_same_shape :
    (untransferred h).map HostAct.shape = (untransferred h').map HostAct.shape := by
  rw [← untransferred_map_shape, hh, untransferred_map_shape]

theorem tail_of_same_shape : h.tail.map HostAct.shape = h'.tail.map HostAct.shape := by
  rw [List.map_tail, hh, List.map_tail]

theorem head_reset_of_same_shape : h'.head? = some .reset ↔ h.head? = some .reset := by
  rw [← head_reset_map_shape, ← hh, head_reset_map_shape]

end SameShape

/-! ### Operations on two states with the same control -/

/-- The elements two states with the same control agree on. -/
theorem State.control_eq_iff {s s' : State} : s.control = s'.control ↔
    s.engPhase = s'.engPhase ∧ s.t = s'.t ∧ s.fill = s'.fill ∧ s.padPhase = s'.padPhase ∧ s.pos = s'.pos ∧
    s.lenIdx = s'.lenIdx ∧ s.bitlen = s'.bitlen ∧ s.digValid = s'.digValid ∧ s.err = s'.err ∧
    s.errCode = s'.errCode ∧ s.host.map HostAct.shape = s'.host.map HostAct.shape ∧ s.rsp.isSome = s'.rsp.isSome := by
  simp only [State.control, State.rspValid, Control.mk.injEq]

theorem nextUop_of_control_eq {s s' : State} (hc : s.control = s'.control) : nextUop s' = nextUop s := by
  obtain ⟨hphase, ht, hfill, hpad, -, -, -, hvalid, herr, -⟩ := State.control_eq_iff.1 hc
  exact nextUop_congr herr.symm hphase.symm ht.symm hfill.symm hpad.symm hvalid.symm

theorem cmdReady_of_control_eq {s s' : State} (hc : s.control = s'.control) : s'.cmdReady = s.cmdReady := by
  have herr : s.err = s'.err := congrArg Control.err hc
  simp only [State.cmdReady, State.busy, nextUop_of_control_eq hc, herr]

theorem opened_control_eq {s s' : State} {h h' : List HostAct} (hc : s.control = s'.control)
    (hh : h.map HostAct.shape = h'.map HostAct.shape) : (s.opened h).control = (s'.opened h').control := by
  rw [State.control_eq_iff] at hc ⊢
  simp [hc, hh]

theorem raiseFault_control_eq {s s' : State} (hc : s.control = s'.control) (c : Cause) :
    (s.raiseFault c).control = (s'.raiseFault c).control := by
  rw [State.control_eq_iff] at hc ⊢
  simp [hc]

/-- An operation that answers a next state answers one from every state with the same control, and the two have the same
control. -/
theorem Effect.control_congr {s s' u : State} {i : Instr} (h : Effect s i u) (hc : s.control = s'.control) :
    ∃ u', Effect s' i u' ∧ u.control = u'.control := by
  have hagree := State.control_eq_iff.1 hc
  obtain ⟨-, -, hfill, hpad, -, -, -, hvalid, -⟩ := State.control_eq_iff.1 hc
  cases h with
  | init => exact ⟨_, .init, by simp [State.control_eq_iff, State.restart, hagree]⟩
  | data b hopen hroom => exact ⟨_, .data b (hpad ▸ hopen) (hfill ▸ hroom), by simp [State.control_eq_iff, hagree]⟩
  | dataClosed b hclosed => exact ⟨_, .dataClosed b (hpad ▸ hclosed), raiseFault_control_eq hc _⟩
  | final hopen => exact ⟨_, .final (hpad ▸ hopen), by simp [State.control_eq_iff, hagree]⟩
  | finalClosed hclosed => exact ⟨_, .finalClosed (hpad ▸ hclosed), raiseFault_control_eq hc _⟩
  | rdd n hn hv => exact ⟨_, .rdd n hn (hvalid ▸ hv), by simp [State.control_eq_iff, hagree]⟩
  | rddInvalid n hn hv => exact ⟨_, .rddInvalid n hn (hvalid ▸ hv), raiseFault_control_eq hc _⟩
  | rdh n c hn hv => exact ⟨_, .rdh n c hn (hvalid ▸ hv), by simp [State.control_eq_iff, hagree]⟩
  | rdhInvalid n c hn hv => exact ⟨_, .rdhInvalid n c hn (hvalid ▸ hv), raiseFault_control_eq hc _⟩
  | padMark hroom => exact ⟨_, .padMark (hfill ▸ hroom), by simp [State.control_eq_iff, State.padTo, hagree]⟩
  | padZero hroom => exact ⟨_, .padZero (hfill ▸ hroom), by simp [State.control_eq_iff, State.padTo, hagree]⟩
  | padLen hroom => exact ⟨_, .padLen (hfill ▸ hroom), by simp [State.control_eq_iff, State.padTo, hagree]⟩
  | step n hi =>
    obtain ⟨A, B, C, D, hstep⟩ := s.stepByTables_frame n
    obtain ⟨A', B', C', D', hstep'⟩ := s'.stepByTables_frame n
    exact ⟨_, .step n hi, by simp [State.control_eq_iff, hstep, hstep', hagree]⟩
  | engSave => exact ⟨_, .engSave, by simp [State.control_eq_iff, hagree]⟩
  | engCombine => exact ⟨_, .engCombine, by simp [State.control_eq_iff, hagree]⟩
  | serLatch => exact ⟨_, .serLatch, by simp [State.control_eq_iff, hagree]⟩

/-- What DATA does to the control part does not depend on the byte. -/
theorem Effect.control_data {s u : State} {b : Byte} (h : Effect s (.data b) u) (c : Byte) :
    ∃ u', Effect s (.data c) u' ∧ u.control = u'.control := by
  cases h with
  | data _ hopen hroom => exact ⟨_, .data c hopen hroom, rfl⟩
  | dataClosed _ hclosed => exact ⟨_, .dataClosed c hclosed, rfl⟩
  | step n hi => cases hi

/-- A command accepted in one state is accepted in every state with the same control, where the word looks alike. -/
theorem Effect.control_congr_of_hideByte {s s' u : State} {w v : BitVec 10} {i : Instr} (hd : decodeCmd w = .ok i)
    (h : Effect s i u) (hw : hideByte w = hideByte v) (hc : s.control = s'.control) :
    ∃ j u', decodeCmd v = .ok j ∧ Effect s' j u' ∧ u.control = u'.control := by
  obtain ⟨u', hu', hcontrol⟩ := h.control_congr hc
  obtain rfl | ⟨b, c, hb, hdata⟩ := eq_or_data_of_hideByte_eq hw
  · exact ⟨i, u', hd, hu', hcontrol⟩
  · obtain rfl : i = .data b := Except.ok.inj (hd.symm.trans hb)
    obtain ⟨u'', hu'', hcontrol'⟩ := hu'.control_data c
    exact ⟨_, u'', hdata, hu'', hcontrol.trans hcontrol'⟩

/-- Words that look alike are reserved together. -/
theorem decodeCmd_error_of_hideByte {w v : BitVec 10} {e : DecodeError} (hd : decodeCmd w = .error e)
    (hw : hideByte w = hideByte v) : decodeCmd v = .error e := by
  obtain rfl | ⟨b, c, hb, -⟩ := eq_or_data_of_hideByte_eq hw
  · exact hd
  · cases hd.symm.trans hb

/-! ### The step -/

/-- The two states take the same kind of slot, and in each kind the next states have the same control. -/
theorem step_control_congr {s s' u : State} (hc : s.control = s'.control) (h : step s = .next u) :
    ∃ u', step s' = .next u' ∧ u.control = u'.control := by
  have hh : s.host.map HostAct.shape = s'.host.map HostAct.shape := congrArg Control.host hc
  have hreset := head_reset_of_same_shape hh
  have hready' : s.cmdReady = true → s'.cmdReady = true := (cmdReady_of_control_eq hc).trans
  have htail := opened_control_eq hc (tail_of_same_shape hh)
  have hkept := opened_control_eq hc (untransferred_of_same_shape hh)
  obtain ⟨rest, hhost, rfl⟩ | ⟨hr, c, i, hn, hrun, hd, hexec⟩ | ⟨-, hready, w, i, hp, hd, hexec⟩ |
    ⟨-, hready, w, e, hp, hd, rfl⟩ | ⟨hr, hready, hp, rfl⟩ | ⟨herr, a, rest, hhost, ha, hhold, rfl⟩ := step_next_cases h
  · obtain ⟨rest', hhost'⟩ := List.head?_eq_some_iff.1 (hreset.2 (by rw [hhost]; rfl))
    refine ⟨_, step_of_reset hhost', ?_⟩
    simpa [State.control_eq_iff, hhost, hhost', HostAct.shape] using hh
  · obtain ⟨u', hu', hcontrol⟩ := (effect_of_exec hexec).control_congr hkept
    have hrun' : s'.engPhase = .run → s'.t < 48 := by
      obtain ⟨hphase, ht, -⟩ := State.control_eq_iff.1 hc
      rw [← hphase, ← ht]
      exact fun hphase => BitVec.not_le.1 fun hle => hrun ⟨hphase, hle⟩
    exact ⟨u', (step_of_nextUop (mt hreset.1 hr) ((nextUop_of_control_eq hc).trans hn) hd hrun').trans hu'.exec_eq,
      hcontrol⟩
  · obtain ⟨v, hv, hlike⟩ := presented_some_of_same_shape hh hp
    obtain ⟨j, u', hj, hu', hcontrol⟩ := (effect_of_exec hexec).control_congr_of_hideByte hd hlike htail
    exact ⟨u', (step_of_accepted (hready' hready) hv hj).trans hu'.exec_eq, hcontrol⟩
  · obtain ⟨v, hv, hlike⟩ := presented_some_of_same_shape hh hp
    refine ⟨_, step_of_reserved (hready' hready) hv (decodeCmd_error_of_hideByte hd hlike), ?_⟩
    exact raiseFault_control_eq htail _
  · exact ⟨_, step_of_not_presented (mt hreset.1 hr) (hready' hready) (presented_none_of_same_shape hh hp), hkept⟩
  · rw [hhost] at hh
    obtain ⟨b, rest', hhost', hb, hrest⟩ := List.map_eq_cons_iff.1 hh.symm
    have herr' : s'.err = true := (congrArg Control.err hc).symm.trans herr
    have hbreset : b ≠ .reset := fun h => ha (HostAct.shape_eq_reset.1 (hb.symm.trans (HostAct.shape_eq_reset.2 h)))
    have hbhold : ∀ w, b ≠ .hold w := fun w h => by
      obtain ⟨v, hv⟩ := HostAct.shape_of_hold hb.symm h
      exact hhold v hv
    exact ⟨_, step_of_faulted_passing herr' hhost' hbreset hbhold, opened_control_eq hc hrest.symm⟩

/-- The parallel output is a function of what `DG` reads as. -/
theorem State.digest_congr {s s' : State} (h : ∀ i < 16, s.DG.read i = s'.DG.read i) : s.digest = s'.digest := by
  refine List.foldl_ext _ _ _ fun acc i hi => ?_
  rw [h i (List.mem_range.1 hi)]

/-- Settles O59: the step follows the control part; and before a digest is valid `DG` reads zero in both states (I9), while
every other output is of the control part. -/
theorem controlDoesNotDependOnTheData : Obligations.ControlDoesNotDependOnTheData := by
  refine ⟨fun s s' u => step_control_congr, ?_⟩
  intro s s' hI hI' hc hvalid
  have hvalid' : s.digValid = s'.digValid := congrArg Control.digValid hc
  have herr : s.err = s'.err := congrArg Control.err hc
  have hcode : s.errCode = s'.errCode := congrArg Control.errCode hc
  have hdigest : s.digest = s'.digest :=
    State.digest_congr fun i hi => (hI.i9 hvalid i hi).trans (hI'.i9 (hvalid'.symm.trans hvalid) i hi).symm
  simp only [State.outputs, State.busy, cmdReady_of_control_eq hc, nextUop_of_control_eq hc, hvalid', herr, hcode, hdigest]

end Sys2Proof.Machine

/-! The word view of `BLK`, byte by byte (20_memory.md R61, R62). -/

namespace Sys2Proof.Machine

/-- A byte moved up to lane `p` of a word is in lane `p` and in no other. -/
theorem byteOf_lane (b : Byte) {p j : Nat} (hj : j < 4) :
    byteOf (b.setWidth 32 <<< (8 * p)) j = if j = p then b else 0 := by
  refine BitVec.eq_of_getLsbD_eq fun i hi => ?_
  have hin : 8 * j + i < 32 := by omega
  simp only [byteOf, BitVec.getLsbD_extractLsb', BitVec.getLsbD_shiftLeft, BitVec.getLsbD_setWidth]
  rcases lt_trichotomy j p with h | rfl | h
  · have hlow : 8 * j + i < 8 * p := by omega
    simp [hlow, h.ne]
  · have hi32 : i < 32 := by omega
    simp [hi, hin, hi32]
  · have hhigh : 8 ≤ 8 * j + i - 8 * p := by omega
    simp [BitVec.getLsbD_of_ge b _ hhigh, h.ne']

theorem byteOf_or {n : Nat} (x y : BitVec n) (j : Nat) : byteOf (x ||| y) j = byteOf x j ||| byteOf y j :=
  BitVec.extractLsb'_or

/-- `LE32` with lane 0 written as the other three. -/
theorem le32_eq_lanes (b0 b1 b2 b3 : Byte) :
    le32 b0 b1 b2 b3 = b0.setWidth 32 <<< (8 * 0) ||| b1.setWidth 32 <<< (8 * 1) |||
      b2.setWidth 32 <<< (8 * 2) ||| b3.setWidth 32 <<< (8 * 3) := by
  simp [le32]

/-- `LE32` puts byte `j` in the lane that `byte(v, j)` reads (00_scope.md R11). -/
theorem byteOf_le32 (b0 b1 b2 b3 : Byte) {j : Nat} (hj : j < 4) :
    byteOf (le32 b0 b1 b2 b3) j = [b0, b1, b2, b3].getD j 0 := by
  simp only [le32_eq_lanes, byteOf_or, byteOf_lane _ hj]
  interval_cases j <;> simp

/-- Settles O15: `X[k]` is `LE32` of the four bytes, so each byte is the one of its lane. -/
theorem blockWordsAreLittleEndian : Obligations.BlockWordsAreLittleEndian := by
  intro s k j hj
  rw [State.X, byteOf_le32 _ _ _ _ hj]
  interval_cases j <;> rfl

/-- Settles O17: a byte lane of the word view is one byte of `BLK`, and the store reaches the byte at `fill` only. -/
theorem schedPutReplacesOneByteLane : Obligations.SchedPutReplacesOneByteLane := by
  intro s b k j hwf hroom hj
  rw [blockWordsAreLittleEndian _ _ _ hj, blockWordsAreLittleEndian _ _ _ hj]
  exact ⟨State.read_BLK_schedPut hwf b _, State.schedPut_fill_toNat hroom b⟩

end Sys2Proof.Machine

/-! Arrays in canonical form are determined by what they read as (20_memory.md R60; log 9). -/

namespace Sys2Proof.Machine

theorem Memory.read_cons_self (k : Nat) (v : Byte) (m : Memory) : Memory.read ((k, v) :: m) k = v := if_pos rfl

theorem Memory.read_cons_of_ne {k a : Nat} (h : k ≠ a) (v : Byte) (m : Memory) :
    Memory.read ((k, v) :: m) a = m.read a := if_neg h

/-- An address outside a canonical array is not listed. -/
theorem Memory.read_of_size_le {size : Nat} {m : Memory} (h : m.wf size = true) {a : Nat} (ha : size ≤ a) :
    m.read a = 0 := by
  induction m with
  | nil => rfl
  | cons c m ih =>
    obtain ⟨k, v⟩ := c
    obtain ⟨hk, -, -, hm⟩ := Memory.wf_cons.1 h
    rw [Memory.read_cons_of_ne (by omega), ih hm]

/-- Where two canonical arrays agree on the first address one of them lists, the other starts no higher: that address
reads as a byte that is not zero. -/
theorem Memory.head_le_head_of_read_eq {size k k' : Nat} {v v' : Byte} {m m' : Memory}
    (h : Memory.wf size ((k, v) :: m) = true) (h' : Memory.wf size ((k', v') :: m') = true)
    (hread : Memory.read ((k, v) :: m) k = Memory.read ((k', v') :: m') k) : k' ≤ k := by
  obtain ⟨-, hv, -, -⟩ := Memory.wf_cons.1 h
  obtain ⟨-, -, hlt', -⟩ := Memory.wf_cons.1 h'
  by_contra hk
  have hbelow : ∀ c ∈ ((k', v') :: m' : Memory), k < c.1 := by
    intro c hc
    rcases List.mem_cons.1 hc with rfl | hc
    · omega
    · exact (by omega : k < k').trans (hlt' c hc)
  rw [Memory.read_cons_self, Memory.read_of_lt hbelow] at hread
  exact hv hread

/-- Arrays in canonical form are determined by what they read as. -/
theorem Memory.eq_of_read_eq {size : Nat} {m m' : Memory} (h : m.wf size = true) (h' : m'.wf size = true)
    (hread : ∀ a, m.read a = m'.read a) : m = m' := by
  induction m generalizing m' with
  | nil =>
    cases m' with
    | nil => rfl
    | cons c' m' =>
      obtain ⟨-, hv', -, -⟩ := Memory.wf_cons.1 h'
      exact absurd ((Memory.read_cons_self _ _ _).symm.trans (hread c'.1).symm) hv'
  | cons c m ih =>
    obtain ⟨k, v⟩ := c
    obtain ⟨-, hv, hlt, hm⟩ := Memory.wf_cons.1 h
    cases m' with
    | nil => exact absurd ((Memory.read_cons_self _ _ _).symm.trans (hread k)) hv
    | cons c' m' =>
      obtain ⟨k', v'⟩ := c'
      obtain ⟨-, -, hlt', hm'⟩ := Memory.wf_cons.1 h'
      obtain rfl : k = k' := le_antisymm (Memory.head_le_head_of_read_eq h' h (hread k').symm)
        (Memory.head_le_head_of_read_eq h h' (hread k))
      have hhead : v = v' := by simpa only [Memory.read_cons_self] using hread k
      have htail : ∀ a, Memory.read m a = Memory.read m' a := by
        intro a
        by_cases ha : k = a
        · subst ha
          rw [Memory.read_of_lt hlt, Memory.read_of_lt hlt']
        · simpa only [Memory.read_cons_of_ne ha] using hread a
      rw [hhead, ih hm hm' htail]

/-- Settles O16: at and beyond the size both arrays read zero. -/
theorem canonicalArraysAreEqualByReads : Obligations.CanonicalArraysAreEqualByReads := by
  intro size m m' h h' hread
  refine Memory.eq_of_read_eq h h' fun a => ?_
  by_cases ha : a < size
  · exact hread a ha
  · rw [Memory.read_of_size_le h (by omega), Memory.read_of_size_le h' (by omega)]

end Sys2Proof.Machine

/-! The one byte that the emitting operations store (20_memory.md R62, 40_padder.md R101). -/

namespace Sys2Proof.Machine

/-- A byte of the padding goes to `BLK[fill]`, and what the padder writes after it is not of `BLK` or `DG`. -/
theorem State.padTo_frame {s : State} (hwf : s.BLK.wf 64 = true) (b : Byte) (p : PadPhase) (l : BitVec 3) (a : Nat) :
    (s.padTo b p l).BLK.read a = (if a = s.fill.toNat then b else s.BLK.read a) ∧ (s.padTo b p l).DG = s.DG :=
  ⟨State.read_BLK_schedPut hwf b a, rfl⟩

/-- Settles O38: each of the four answers a next state only with room, and has then performed `SchedPut` once. -/
theorem emittersStoreOneByteAtFill : Obligations.EmittersStoreOneByteAtFill := by
  intro s u hwf
  refine ⟨fun b hopen hexec a => ?data, fun hexec a => ?mark, fun hexec a => ?zero, fun hexec a => ?len⟩
  case data =>
    have hroom : s.ifRoom (s.padAbsorb b) = .next u := (if_pos hopen).symm.trans hexec
    obtain ⟨-, rfl⟩ := State.ifRoom_next.1 hroom
    exact ⟨State.read_BLK_schedPut hwf b a, rfl⟩
  case mark =>
    obtain ⟨-, rfl⟩ := State.ifRoom_next.1 hexec
    exact State.padTo_frame hwf _ _ _ a
  case zero =>
    obtain ⟨-, rfl⟩ := State.ifRoom_next.1 ((exec_padZero s).symm.trans hexec)
    exact State.padTo_frame hwf _ _ _ a
  case len =>
    obtain ⟨-, rfl⟩ := State.ifRoom_next.1 ((exec_padLen s).symm.trans hexec)
    exact State.padTo_frame hwf _ _ _ a

end Sys2Proof.Machine

/-! The fields of a command word, and the command decoder on a word given by its fields (30_encoding.md R80, R82). -/

namespace Sys2Proof

theorem append_eq_append_iff {m n : Nat} {x x' : BitVec m} {y y' : BitVec n} :
    x ++ y = x' ++ y' ↔ x = x' ∧ y = y' := by
  refine ⟨fun h => ⟨?_, ?_⟩, fun ⟨hx, hy⟩ => hx ▸ hy ▸ rfl⟩
  · rw [← BitVec.extractLsb'_append_eq_left (a := x) (b := y), h, BitVec.extractLsb'_append_eq_left]
  · rw [← BitVec.extractLsb'_append_eq_right (a := x) (b := y), h, BitVec.extractLsb'_append_eq_right]

/-- A mask made of two parts is applied to each part. -/
theorem append_and_append_eq_append_iff {m n : Nat} {x p k : BitVec m} {y q l : BitVec n} :
    (x ++ y) &&& (k ++ l) = p ++ q ↔ x &&& k = p ∧ y &&& l = q := by
  rw [BitVec.and_append, append_eq_append_iff]

@[simp] theorem cmdOp_cmdWord (op : BitVec 2) (a : BitVec 8) : cmdOp (cmdWord op a) = op :=
  BitVec.extractLsb'_append_eq_left

@[simp] theorem cmdArg_cmdWord (op : BitVec 2) (a : BitVec 8) : cmdArg (cmdWord op a) = a :=
  BitVec.extractLsb'_append_eq_right

theorem cmdWord_cmdOp_cmdArg (w : BitVec 10) : cmdWord (cmdOp w) (cmdArg w) = w :=
  BitVec.extractLsb'_append_extractLsb' (w := 2) (len := 8)

theorem toNat_cmdWord (op : BitVec 2) (a : BitVec 8) : (cmdWord op a).toNat = 256 * op.toNat + a.toNat := by
  rw [cmdWord, BitVec.toNat_append, ← Nat.shiftLeft_add_eq_or_of_lt a.isLt, Nat.shiftLeft_eq, Nat.mul_comm]

/-- To show something of every command word, show it for each value of `op`. -/
theorem cmdWord_cases {P : BitVec 10 → Prop} (h0 : ∀ a, P (cmdWord 0 a)) (h1 : ∀ a, P (cmdWord 1 a))
    (h2 : ∀ a, P (cmdWord 2 a)) (h3 : ∀ a, P (cmdWord 3 a)) (w : BitVec 10) : P w := by
  have hop : ∀ op : BitVec 2, op = 0 ∨ op = 1 ∨ op = 2 ∨ op = 3 := by decide
  rw [← cmdWord_cmdOp_cmdArg w]
  rcases hop (cmdOp w) with h | h | h | h <;> rw [h]
  · exact h0 _
  · exact h1 _
  · exact h2 _
  · exact h3 _

theorem decodeCmd_cmdWord_zero (a : BitVec 8) :
    decodeCmd (cmdWord 0 a) = if a = 0 then .ok .init else .error .reservedInit := by
  simp [decodeCmd]

theorem decodeCmd_cmdWord_one (a : BitVec 8) : decodeCmd (cmdWord 1 a) = .ok (.data a) := by
  simp [decodeCmd]

theorem decodeCmd_cmdWord_two (a : BitVec 8) :
    decodeCmd (cmdWord 2 a) = if a = 0 then .ok .final else .error .reservedFinal := by
  simp [decodeCmd]

theorem decodeCmd_cmdWord_three (a : BitVec 8) :
    decodeCmd (cmdWord 3 a) =
      if a.getLsbD 7 then .error .reservedRead
      else if a.getLsbD 6 then .ok (.rdh (a.extractLsb' 0 5).toNat (a.getLsbD 5))
      else if a.extractLsb' 4 2 ≠ 0 then .error .reservedDigestIndex
      else .ok (.rdd (a.extractLsb' 0 4).toNat) := by
  simp [decodeCmd]

/-! ### The argument of a READ word -/

/-- The argument of RDD (30_encoding.md R81). -/
def rddArg (n : BitVec 4) : BitVec 8 := 0#4 ++ n

/-- The argument of RDH (30_encoding.md R81). -/
def rdhArg (u : Bool) (n : BitVec 5) : BitVec 8 := 1#2 ++ BitVec.ofBool u ++ n

theorem encode_rdd (i : Nat) : encode (.rdd i) = .cmd (cmdWord 3 (rddArg (BitVec.ofNat 4 i))) := rfl

theorem encode_rdh (i : Nat) (u : Bool) : encode (.rdh i u) = .cmd (cmdWord 3 (rdhArg u (BitVec.ofNat 5 i))) := rfl

theorem decodeCmd_rddArg (n : BitVec 4) : decodeCmd (cmdWord 3 (rddArg n)) = .ok (.rdd n.toNat) := by
  have hfields : ∀ n, (rddArg n).getLsbD 7 = false ∧ (rddArg n).getLsbD 6 = false ∧
      (rddArg n).extractLsb' 4 2 = 0 ∧ (rddArg n).extractLsb' 0 4 = n := by decide
  obtain ⟨h7, h6, hmid, hindex⟩ := hfields n
  simp only [decodeCmd_cmdWord_three, h7, h6, hmid, hindex, Bool.false_eq_true, ne_eq, not_true, if_false]

theorem decodeCmd_rdhArg (u : Bool) (n : BitVec 5) : decodeCmd (cmdWord 3 (rdhArg u n)) = .ok (.rdh n.toNat u) := by
  have hfields : ∀ u n, (rdhArg u n).getLsbD 7 = false ∧ (rdhArg u n).getLsbD 6 = true ∧
      (rdhArg u n).getLsbD 5 = u ∧ (rdhArg u n).extractLsb' 0 5 = n := by decide
  obtain ⟨h7, h6, hcase, hindex⟩ := hfields u n
  simp only [decodeCmd_cmdWord_three, h7, h6, hcase, hindex, Bool.false_eq_true, if_false, if_true]

theorem rddArg_of_bits {a : BitVec 8} (h7 : a.getLsbD 7 = false) (h6 : a.getLsbD 6 = false)
    (hmid : a.extractLsb' 4 2 = 0) : rddArg (a.extractLsb' 0 4) = a := by
  revert a
  decide

theorem rdhArg_of_bits {a : BitVec 8} (h7 : a.getLsbD 7 = false) (h6 : a.getLsbD 6 = true) :
    rdhArg (a.getLsbD 5) (a.extractLsb' 0 5) = a := by
  revert a
  decide

/-- An argument with the fixed bits of RDD is one of RDD. -/
theorem eq_rddArg_of_and {a : BitVec 8} (h : a &&& 0xF0 = 0) : ∃ n, a = rddArg n := by
  have h7 : a.getLsbD 7 = false := by simpa using congrArg (BitVec.getLsbD · 7) h
  have h6 : a.getLsbD 6 = false := by simpa using congrArg (BitVec.getLsbD · 6) h
  have hmid : a.extractLsb' 4 2 &&& BitVec.allOnes 2 = 0 :=
    BitVec.extractLsb'_and.symm.trans (congrArg (BitVec.extractLsb' 4 2) h)
  rw [BitVec.and_allOnes] at hmid
  exact ⟨_, (rddArg_of_bits h7 h6 hmid).symm⟩

/-- An argument with the fixed bits of RDH is one of RDH. -/
theorem eq_rdhArg_of_and {a : BitVec 8} (h : a &&& 0xC0 = 0x40) : ∃ u n, a = rdhArg u n := by
  have h7 : a.getLsbD 7 = false := by simpa using congrArg (BitVec.getLsbD · 7) h
  have h6 : a.getLsbD 6 = true := by simpa using congrArg (BitVec.getLsbD · 6) h
  exact ⟨_, _, (rdhArg_of_bits h7 h6).symm⟩

/-! ### The bits of an argument in numbers -/

theorem getLsbD_seven_iff (a : BitVec 8) : a.getLsbD 7 = true ↔ 128 ≤ a.toNat := by
  have := a.isLt
  rw [BitVec.getLsbD, Nat.testBit_eq_decide_div_mod_eq, decide_eq_true_iff]
  omega

theorem getLsbD_six_iff (a : BitVec 8) : a.getLsbD 6 = true ↔ a.toNat / 64 % 2 = 1 := by
  rw [BitVec.getLsbD, Nat.testBit_eq_decide_div_mod_eq, decide_eq_true_iff]

theorem toNat_extractLsb'_eq (a : BitVec 8) (k n : Nat) : (a.extractLsb' k n).toNat = a.toNat / 2 ^ k % 2 ^ n := by
  rw [BitVec.extractLsb'_toNat, Nat.shiftRight_eq_div_pow]

/-- The bits 5:4 of an argument in numbers. -/
theorem extractLsb'_four_two_ne_zero_iff (a : BitVec 8) : a.extractLsb' 4 2 ≠ 0 ↔ a.toNat / 16 % 4 ≠ 0 := by
  rw [Ne, ← BitVec.toNat_inj, toNat_extractLsb'_eq]
  rfl

end Sys2Proof

/-! Decode and encode are inverse to each other (30_encoding.md R81, R84). -/

namespace Sys2Proof

/-- Settles O1: a READ word's index field holds an index in range, and the other encodings are rows of the tables. -/
theorem encodedOperationsDecodeToThemselves : Obligations.EncodedOperationsDecodeToThemselves := by
  intro i hwf
  cases i with
  | data b => exact decodeCmd_cmdWord_one b
  | rdd n =>
    have hn : n < 16 := of_decide_eq_true hwf
    rw [encode_rdd, decode, decodeCmd_rddArg, BitVec.toNat_ofNat, Nat.mod_eq_of_lt hn]
  | rdh n u =>
    have hn : n < 32 := of_decide_eq_true hwf
    rw [encode_rdh, decode, decodeCmd_rdhArg, BitVec.toNat_ofNat, Nat.mod_eq_of_lt hn]
  | _ => rfl

/-- A command word that decodes is the encoding of what it decodes to, for each value of `op`. -/
theorem encode_of_decodeCmd {w : BitVec 10} {i : Instr} (h : decodeCmd w = .ok i) : encode i = .cmd w := by
  induction w using cmdWord_cases with
  | h0 a =>
    rw [decodeCmd_cmdWord_zero] at h
    split_ifs at h with ha
    cases h
    rw [ha]
    rfl
  | h1 a =>
    rw [decodeCmd_cmdWord_one] at h
    cases h
    rfl
  | h2 a =>
    rw [decodeCmd_cmdWord_two] at h
    split_ifs at h with ha
    cases h
    rw [ha]
    rfl
  | h3 a =>
    rw [decodeCmd_cmdWord_three] at h
    split_ifs at h with h7 h6 hmid <;> cases h
    · rw [encode_rdh, BitVec.ofNat_toNat, BitVec.setWidth_eq, rdhArg_of_bits (eq_false_of_ne_true h7) h6]
    · rw [encode_rdd, BitVec.ofNat_toNat, BitVec.setWidth_eq,
        rddArg_of_bits (eq_false_of_ne_true h7) (eq_false_of_ne_true h6) (not_not.1 hmid)]

/-- A micro-operation code that decodes is the encoding of what it decodes to: its row is the encoder's. -/
theorem encode_of_decodeUop {c : BitVec 8} {i : Instr} (h : decodeUop c = .ok i) : encode i = .uop c := by
  have hrows : ∀ row ∈ uopTable, encode row.2 = .uop row.1 := by decide
  exact hrows _ (mem_uopTable_of_decodeUop h)

/-- Settles O2, channel by channel. -/
theorem decodedCodesEncodeToThemselves : Obligations.DecodedCodesEncodeToThemselves := by
  intro c i h
  cases c with
  | cmd w => exact ⟨wellFormed_of_decodeCmd h, encode_of_decodeCmd h⟩
  | uop c => exact ⟨wellFormed_of_decodeUop h, encode_of_decodeUop h⟩

/-- Settles O5: each code is the encoding of a well-formed operation. -/
theorem writtenOutCodesDecode : Obligations.WrittenOutCodesDecode :=
  have roundTrip := encodedOperationsDecodeToThemselves
  ⟨roundTrip .init rfl, roundTrip (.data 0x61) rfl, roundTrip .final rfl, roundTrip (.rdd 3) rfl,
    roundTrip (.rdh 5 false) rfl, roundTrip (.rdh 5 true) rfl, roundTrip .padMark rfl, roundTrip .padLen rfl,
    roundTrip .step0 rfl, roundTrip .step47 rfl, roundTrip .engCombine rfl, roundTrip .engSave rfl,
    roundTrip .serLatch rfl⟩

end Sys2Proof

/-! The rows of the opcode table (30_encoding.md R81, R84). -/

namespace Sys2Proof

/-- The encoding of an operation is selected by the operation's row. -/
theorem opcodeRow_selects_encode (i : Instr) : Laws.TableRow.Statement i := by
  cases i with
  | data b => exact Laws.TableRow.data b
  | rdd n => exact Laws.TableRow.rdd n
  | rdh n u => exact Laws.TableRow.rdh n u
  | _ => exact fun _ => rfl

/-- A row of the command channel, which has both bits of `op` fixed, selects a word field by field. -/
theorem cmd_row_selects_iff {op p : BitVec 2} {a q n : BitVec 8} :
    (OpcodeRow.cmd (cmdWord p q) (cmdWord 3 n)).selects (.cmd (cmdWord op a)) = true ↔ op = p ∧ a &&& n = q := by
  have hop : op &&& 3 = op := BitVec.and_allOnes
  rw [OpcodeRow.selects, beq_iff_eq, cmdWord, cmdWord, cmdWord, append_and_append_eq_append_iff, hop]

/-- A row of the micro-operation channel has every bit fixed. -/
theorem uop_row_selects_iff {p c : BitVec 8} : (OpcodeRow.uop p 0xFF).selects (.uop c) = true ↔ c = p := by
  rw [OpcodeRow.selects, beq_iff_eq, show (0xFF : BitVec 8) = BitVec.allOnes 8 from rfl, BitVec.and_allOnes]

/-- A word that a row selects decodes to an operation of that row. -/
theorem decodeCmd_of_row_selects {w : BitVec 10} {i : Instr} (h : (opcodeRow i).selects (.cmd w) = true) :
    ∃ j, decodeCmd w = .ok j ∧ opcodeRow j = opcodeRow i := by
  have hargs : ∀ a : BitVec 8, a &&& 0xFF = a := fun a => BitVec.and_allOnes
  obtain ⟨op, a, rfl⟩ : ∃ op a, w = cmdWord op a := ⟨_, _, (cmdWord_cmdOp_cmdArg w).symm⟩
  cases i with
  | init =>
    obtain ⟨rfl, ha⟩ := cmd_row_selects_iff (p := 0) (q := 0) (n := 0xFF).1 h
    exact ⟨.init, by rw [← hargs a, ha]; rfl, rfl⟩
  | data b =>
    obtain ⟨rfl, -⟩ := cmd_row_selects_iff (p := 1) (q := 0) (n := 0).1 h
    exact ⟨.data a, decodeCmd_cmdWord_one a, rfl⟩
  | final =>
    obtain ⟨rfl, ha⟩ := cmd_row_selects_iff (p := 2) (q := 0) (n := 0xFF).1 h
    exact ⟨.final, by rw [← hargs a, ha]; rfl, rfl⟩
  | rdd n =>
    obtain ⟨rfl, ha⟩ := cmd_row_selects_iff (p := 3) (q := 0) (n := 0xF0).1 h
    obtain ⟨k, rfl⟩ := eq_rddArg_of_and ha
    exact ⟨.rdd k.toNat, decodeCmd_rddArg k, rfl⟩
  | rdh n u =>
    obtain ⟨rfl, ha⟩ := cmd_row_selects_iff (p := 3) (q := 0x40) (n := 0xC0).1 h
    obtain ⟨v, k, rfl⟩ := eq_rdhArg_of_and ha
    exact ⟨.rdh k.toNat v, decodeCmd_rdhArg v k, rfl⟩
  | _ => cases h

/-- A micro-operation code that a row selects is the code of the row's operation. -/
theorem decodeUop_of_row_selects {c : BitVec 8} {i : Instr} (h : (opcodeRow i).selects (.uop c) = true) :
    decodeUop c = .ok i := by
  cases i with
  | init | data | final | rdd | rdh => cases h
  | _ => obtain rfl := uop_row_selects_iff.1 h; rfl

/-- Settles O6: a code that decodes is an encoding, and a row's fixed bits leave only the operands free. -/
theorem codesSelectTheirTableRow : Obligations.CodesSelectTheirTableRow := by
  refine ⟨fun c i h => ?_, fun c i h => ?_⟩
  · obtain ⟨hwf, rfl⟩ := decodedCodesEncodeToThemselves c i h
    exact opcodeRow_selects_encode i hwf
  · cases c with
    | cmd w => exact decodeCmd_of_row_selects h
    | uop c => exact ⟨i, decodeUop_of_row_selects h, rfl⟩

end Sys2Proof

/-! The reserved command words (30_encoding.md R82, R83). -/

namespace Sys2Proof

theorem eq_zero_iff_toNat (a : BitVec 8) : a = 0 ↔ a.toNat = 0 := BitVec.toNat_inj.symm

theorem exists_error_of_ite {p : Prop} [Decidable p] {i : Instr} {e : DecodeError} :
    (∃ e', (if p then .ok i else .error e : Except DecodeError Instr) = .error e') ↔ ¬p := by
  by_cases h : p <;> simp [h]

/-- The arguments with which a READ word is reserved, in numbers. -/
theorem decodeCmd_read_error_iff (a : BitVec 8) :
    (∃ e, decodeCmd (cmdWord 3 a) = .error e) ↔ (16 ≤ a.toNat ∧ a.toNat < 64) ∨ 128 ≤ a.toNat := by
  have hlt := a.isLt
  simp only [decodeCmd_cmdWord_three, getLsbD_seven_iff, getLsbD_six_iff, extractLsb'_four_two_ne_zero_iff]
  split_ifs with h7 h6 hmid
  · exact iff_of_true ⟨_, rfl⟩ (by omega)
  · exact iff_of_false nofun (by omega)
  · exact iff_of_true ⟨_, rfl⟩ (by omega)
  · exact iff_of_false nofun (by omega)

/-- The four reserved ranges of 30_encoding.md R83, in numbers. -/
theorem decodeCmd_error_iff (w : BitVec 10) :
    (∃ e, decodeCmd w = .error e) ↔
      (0x001 ≤ w.toNat ∧ w.toNat ≤ 0x0FF) ∨ (0x201 ≤ w.toNat ∧ w.toNat ≤ 0x2FF) ∨
      (0x310 ≤ w.toNat ∧ w.toNat ≤ 0x33F) ∨ (0x380 ≤ w.toNat ∧ w.toNat ≤ 0x3FF) := by
  induction w using cmdWord_cases with
  | h0 a =>
    have hlt := a.isLt
    have hw : (cmdWord 0 a).toNat = 0x000 + a.toNat := toNat_cmdWord 0 a
    rw [decodeCmd_cmdWord_zero, exists_error_of_ite, eq_zero_iff_toNat, hw]
    omega
  | h1 a =>
    have hlt := a.isLt
    have hw : (cmdWord 1 a).toNat = 0x100 + a.toNat := toNat_cmdWord 1 a
    rw [decodeCmd_cmdWord_one, hw]
    exact iff_of_false nofun (by omega)
  | h2 a =>
    have hlt := a.isLt
    have hw : (cmdWord 2 a).toNat = 0x200 + a.toNat := toNat_cmdWord 2 a
    rw [decodeCmd_cmdWord_two, exists_error_of_ite, eq_zero_iff_toNat, hw]
    omega
  | h3 a =>
    have hlt := a.isLt
    have hw : (cmdWord 3 a).toNat = 0x300 + a.toNat := toNat_cmdWord 3 a
    rw [decodeCmd_read_error_iff, hw]
    omega

/-- The legal command words as numbers: INIT, the DATA words with FINAL after them, the RDD words and the RDH words. -/
def legalWords : List Nat := [0] ++ List.range' 256 257 ++ List.range' 768 16 ++ List.range' 832 64

theorem isOk_decodeCmd_iff (w : BitVec 10) : (decodeCmd w).isOk = true ↔ ¬∃ e, decodeCmd w = .error e := by
  cases decodeCmd w <;> simp [Except.isOk, Except.toBool]

/-- A number below 1024 decodes exactly when it is listed as legal. -/
theorem mem_legalWords_iff {n : Nat} : n ∈ legalWords ↔ n < 1024 ∧ (decodeCmd (BitVec.ofNat 10 n)).isOk = true := by
  rw [isOk_decodeCmd_iff, decodeCmd_error_iff, BitVec.toNat_ofNat]
  simp only [legalWords, List.mem_append, List.mem_singleton, List.mem_range'_1]
  omega

theorem pairwise_legalWords : legalWords.Pairwise (· < ·) := by
  have hrange : ∀ a n, (List.range' a n).Pairwise (· < ·) := fun _ _ => List.pairwise_lt_range' 1
  simp only [legalWords, List.pairwise_append, List.pairwise_singleton, hrange, List.mem_append, List.mem_singleton,
    List.mem_range'_1, true_and]
  exact ⟨⟨fun a ha b hb => by omega, fun a ha b hb => by omega⟩, fun a ha b hb => by omega⟩

theorem filter_legal_eq :
    ((List.range 1024).filter fun n => (decodeCmd (BitVec.ofNat 10 n)).isOk) = legalWords := by
  refine List.Pairwise.eq_of_mem_iff (List.pairwise_lt_range.filter _) pairwise_legalWords fun n => ?_
  rw [List.mem_filter, List.mem_range, mem_legalWords_iff]

/-- Settles O3: the clauses are the decoder's equations by `op`, and the legal words are those listed. -/
theorem decoderFollowsTheFourOps : Obligations.DecoderFollowsTheFourOps := by
  have hlegal : ((List.range 1024).filter fun n => (decodeCmd (BitVec.ofNat 10 n)).isOk).length = 338 := by
    rw [filter_legal_eq]
    simp [legalWords]
  refine ⟨fun a => ?_, fun a => ?_, fun a => ?_, fun a => ?_, hlegal, ?_⟩
  · rw [decodeCmd_cmdWord_zero, apply_ite Except.toOption]
    rfl
  · rw [decodeCmd_cmdWord_one]
    rfl
  · rw [decodeCmd_cmdWord_two, apply_ite Except.toOption]
    rfl
  · simp only [decodeCmd_cmdWord_three, apply_ite Except.toOption, extractLsb'_four_two_ne_zero_iff, toNat_extractLsb'_eq,
      pow_zero, Nat.div_one]
    rfl
  · have htotal := List.length_eq_length_filter_add (l := List.range 1024)
      fun n => (decodeCmd (BitVec.ofNat 10 n)).isOk
    rw [hlegal, List.length_range] at htotal
    omega

end Sys2Proof

namespace Sys2Proof.Machine

/-- Settles O4: the ranges by the values of `op`, and the step of a ready core with a reserved word at the port. -/
theorem reservedWordsRaiseIllegalCommand : Obligations.ReservedWordsRaiseIllegalCommand :=
  ⟨decodeCmd_error_iff, fun _ _ _ => step_of_reserved⟩

end Sys2Proof.Machine

/-! The assigned micro-operation codes (30_encoding.md R84). -/

namespace Sys2Proof.Machine

theorem toNat_stepCode (t : BitVec 6) : (stepCode t).toNat = 0x80 + t.toNat := by
  rw [stepCode, BitVec.toNat_append, ← Nat.shiftLeft_add_eq_or_of_lt t.isLt]
  rfl

theorem extractLsb'_stepCode (t : BitVec 6) : (stepCode t).extractLsb' 0 6 = t := BitVec.extractLsb'_append_eq_right

/-- The codes between ENG.COMBINE and the first step are those of the steps. -/
theorem exists_stepCode {c : BitVec 8} (hlo : 0x80 ≤ c) (hhi : c < 0xB0) : ∃ t, t < 48 ∧ c = stepCode t := by
  rw [BitVec.le_def] at hlo
  rw [BitVec.lt_def] at hhi
  simp only [BitVec.ofNat_eq_ofNat, BitVec.toNat_ofNat] at hlo hhi
  have ht : (BitVec.ofNat 6 (c.toNat - 128)).toNat = c.toNat - 128 := by
    rw [BitVec.toNat_ofNat]
    omega
  refine ⟨BitVec.ofNat 6 (c.toNat - 128), ?_, BitVec.eq_of_toNat_eq ?_⟩
  · rw [BitVec.lt_def, ht]
    simp only [BitVec.ofNat_eq_ofNat, BitVec.toNat_ofNat]
    omega
  · rw [toNat_stepCode, ht]
    omega

/-- Every assigned code is the padder's, a step's, or one of the three others. -/
theorem assigned_cases {c : BitVec 8} {i : Instr} (h : decodeUop c = .ok i) :
    c = 0x00 ∨ c = 0x01 ∨ c = 0x02 ∨ c = 0xB0 ∨ c = 0xBF ∨ c = 0xC0 ∨ ∃ t, t < 48 ∧ c = stepCode t := by
  have hrows : ∀ row ∈ uopTable, row.1 = 0x00 ∨ row.1 = 0x01 ∨ row.1 = 0x02 ∨ row.1 = 0xB0 ∨ row.1 = 0xBF ∨
      row.1 = 0xC0 ∨ (0x80 ≤ row.1 ∧ row.1 < 0xB0) := by decide
  have hcode := hrows _ (mem_uopTable_of_decodeUop h)
  exact hcode.imp_right <| .imp_right <| .imp_right <| .imp_right <| .imp_right <| .imp_right fun ⟨hlo, hhi⟩ =>
    exists_stepCode hlo hhi

theorem isOk_decodeUop_iff (c : BitVec 8) : (decodeUop c).isOk = true ↔ ∃ i, decodeUop c = .ok i := by
  cases decodeUop c <;> simp [Except.isOk, Except.toBool]

/-- The codes up to PAD.LEN are the padder's. -/
theorem exists_decodeUop_of_le {c : BitVec 8} (h : c ≤ 0x02) : ∃ i, decodeUop c = .ok i := by
  have hcodes : c = 0x00 ∨ c = 0x01 ∨ c = 0x02 := by bv_omega
  obtain rfl | rfl | rfl := hcodes
  · exact ⟨.padMark, rfl⟩
  · exact ⟨.padZero, rfl⟩
  · exact ⟨.padLen, rfl⟩

/-- Settles O7: the rows of the table lie in the ranges, and each code of the ranges is in the table. -/
theorem assignedMicroOperationCodes : Obligations.AssignedMicroOperationCodes := by
  refine ⟨fun c => ?_, fun t ht => ?_⟩
  · rw [isOk_decodeUop_iff]
    constructor
    · rintro ⟨i, hi⟩
      have hrows : ∀ row ∈ uopTable, row.1 ≤ 0x02 ∨ (0x80 ≤ row.1 ∧ row.1 ≤ 0xB0) ∨ row.1 = 0xBF ∨ row.1 = 0xC0 := by
        decide
      exact hrows _ (mem_uopTable_of_decodeUop hi)
    · rintro (hpad | ⟨hlo, hhi⟩ | rfl | rfl)
      · exact exists_decodeUop_of_le hpad
      · by_cases hcombine : c = 0xB0
        · exact ⟨.engCombine, by rw [hcombine]; rfl⟩
        · obtain ⟨t, ht, rfl⟩ := exists_stepCode hlo (BitVec.lt_of_le_ne hhi hcombine)
          exact decodeUop_stepCode_isOk ht
      · exact ⟨.engSave, rfl⟩
      · exact ⟨.serLatch, rfl⟩
  · obtain ⟨i, hi⟩ := decodeUop_stepCode_isOk ht
    exact ⟨i, hi, stepIndex_of_decodeUop_stepCode ht hi, toNat_stepCode t⟩

end Sys2Proof.Machine

/-! The lines of 30_encoding.md R85 as equations: what is selected when a line's condition holds. -/

namespace Sys2Proof.Machine

section Lines

variable {s : State} (herr : s.err = false)
include herr

theorem nextUop_of_run (hrun : s.engPhase = .run) : nextUop s = some (stepCode s.t) := by
  simp only [nextUop, herr, hrun, Bool.false_eq_true, if_false, if_true]

theorem nextUop_of_add (hadd : s.engPhase = .add) : nextUop s = some 0xB0 := by
  simp only [nextUop, herr, hadd, Bool.false_eq_true, reduceCtorEq, if_false, if_true]

variable (hidle : s.engPhase = .idle)
include hidle

theorem nextUop_of_full (hfull : s.fill = 64) : nextUop s = some 0xBF := by
  simp only [nextUop, herr, hidle, hfull, Bool.false_eq_true, reduceCtorEq, and_self, if_false, if_true]

variable (hfill : s.fill ≠ 64)
include hfill

/-- With the engine idle and the buffer not full the padder's phase decides. -/
theorem nextUop_of_idle : nextUop s =
    if s.padPhase = .mark then some 0x00 else if s.padPhase = .zero then some 0x01
    else if s.padPhase = .len then some 0x02
    else if s.padPhase = .done ∧ s.digValid = false then some 0xC0 else none := by
  simp only [nextUop, herr, hidle, hfill, Bool.false_eq_true, and_false, reduceCtorEq, if_false]

theorem nextUop_of_mark (hpad : s.padPhase = .mark) : nextUop s = some 0x00 :=
  (nextUop_of_idle herr hidle hfill).trans (by rw [hpad]; rfl)

theorem nextUop_of_zero (hpad : s.padPhase = .zero) : nextUop s = some 0x01 :=
  (nextUop_of_idle herr hidle hfill).trans (by rw [hpad]; rfl)

theorem nextUop_of_len (hpad : s.padPhase = .len) : nextUop s = some 0x02 :=
  (nextUop_of_idle herr hidle hfill).trans (by rw [hpad]; rfl)

theorem nextUop_of_done (hpad : s.padPhase = .done) (hvalid : s.digValid = false) : nextUop s = some 0xC0 :=
  (nextUop_of_idle herr hidle hfill).trans (by rw [hpad, hvalid]; rfl)

/-- The two states in which an idle, unfaulted core with room selects nothing. -/
theorem nextUop_of_idle_none_iff :
    nextUop s = none ↔ s.padPhase = .msg ∨ (s.padPhase = .done ∧ s.digValid = true) := by
  rw [nextUop_of_idle herr hidle hfill]
  cases s.padPhase <;> simp

end Lines

end Sys2Proof.Machine

/-! The ready states (30_encoding.md R85 (b), R86, 44_host_commands.md R224). -/

namespace Sys2Proof.Machine

/-- In which states the core is ready, read off the lines of 30_encoding.md R85. -/
theorem State.cmdReady_iff_phases {s : State} :
    s.cmdReady = true ↔ s.err = false ∧ s.engPhase = .idle ∧ s.fill ≠ 64 ∧
      (s.padPhase = .msg ∨ (s.padPhase = .done ∧ s.digValid = true)) := by
  constructor
  · intro hready
    obtain ⟨hidle, hfill⟩ := State.idle_of_cmdReady hready
    obtain ⟨hnone, herr⟩ := State.cmdReady_iff.1 hready
    exact ⟨herr, hidle, hfill, (nextUop_of_idle_none_iff herr hidle hfill).1 hnone⟩
  · rintro ⟨herr, hidle, hfill, hpad⟩
    exact State.cmdReady_iff.2 ⟨(nextUop_of_idle_none_iff herr hidle hfill).2 hpad, herr⟩

/-- Nothing is selected in a faulted core and in a ready one. -/
theorem nextUop_none_iff {s : State} : nextUop s = none ↔ s.err = true ∨ s.cmdReady = true := by
  rw [State.cmdReady_iff]
  constructor
  · intro hnone
    cases herr : s.err with
    | true => exact .inl rfl
    | false => exact .inr ⟨hnone, rfl⟩
  · rintro (herr | ⟨hnone, -⟩)
    · exact nextUop_of_err herr
    · exact hnone

/-- In a good state the ready conditions are those of the two ready states: an open message has no digest, and a digest comes
with an empty buffer (I8). -/
theorem Invariants.cmdReady_iff_open_or_finished {s : State} (hI : Invariants s) :
    s.cmdReady = true ↔ MessageOpen s ∨ Finished s := by
  rw [State.cmdReady_iff_phases]
  constructor
  · rintro ⟨herr, hidle, hfill, hmsg | ⟨hdone, hvalid⟩⟩
    · exact .inl ⟨hmsg, hI.fill_lt hfill, hidle, hI.digValid_of_padPhase (by simp [hmsg]), herr⟩
    · obtain ⟨-, hempty, -, -⟩ := hI.i8 hvalid
      exact .inr ⟨hdone, hvalid, hempty, hidle, herr⟩
  · rintro (⟨hmsg, hroom, hidle, -, herr⟩ | ⟨hdone, hvalid, hempty, hidle, herr⟩)
    · exact ⟨herr, hidle, fun hfull => by simp [hfull] at hroom, .inl hmsg⟩
    · exact ⟨herr, hidle, by simp [hempty], .inr ⟨hdone, hvalid⟩⟩

/-- Settles O45: nothing is selected when the core is ready or faulted, and a good core is ready in the two ready states. -/
theorem readyStatesAreOpenOrFinished : Obligations.ReadyStatesAreOpenOrFinished :=
  fun _ hI => ⟨hI.cmdReady_iff_open_or_finished, nextUop_none_iff.trans (or_congr_right hI.cmdReady_iff_open_or_finished)⟩

end Sys2Proof.Machine

/-! The selection conditions of 30_encoding.md R85 with their notes (log 11). -/

namespace Sys2Proof.Machine

/-- A line whose condition holds gives `NextUop`. -/
theorem nextUop_of_selectionLine {s : State} {n : Nat} (hn : n < 7) (h : (selectionLines s).getD n false = true) :
    nextUop s = some ([stepCode s.t, 0xB0, 0xBF, 0x00, 0x01, 0x02, 0xC0].getD n 0) := by
  have hroom : s.fill.toNat < 64 → s.fill ≠ 64 := fun hlt hfull => by simp [hfull] at hlt
  interval_cases n <;>
    simp only [selectionLines, List.getD_cons_zero, List.getD_cons_succ, Bool.and_eq_true, Bool.not_eq_true',
      decide_eq_true_eq] at h
  · obtain ⟨herr, hrun⟩ := h
    exact nextUop_of_run herr hrun
  · obtain ⟨herr, hadd⟩ := h
    exact nextUop_of_add herr hadd
  · obtain ⟨⟨herr, hidle⟩, hfull⟩ := h
    exact nextUop_of_full herr hidle hfull
  · obtain ⟨⟨⟨herr, hpad⟩, hlt⟩, hidle⟩ := h
    exact nextUop_of_mark herr hidle (hroom hlt) hpad
  · obtain ⟨⟨⟨herr, hpad⟩, hlt⟩, hidle⟩ := h
    exact nextUop_of_zero herr hidle (hroom hlt) hpad
  · obtain ⟨⟨⟨herr, hpad⟩, hlt⟩, hidle⟩ := h
    exact nextUop_of_len herr hidle (hroom hlt) hpad
  · obtain ⟨⟨⟨⟨herr, hpad⟩, hempty⟩, hidle⟩, hvalid⟩ := h
    exact nextUop_of_done herr hidle (by simp [hempty]) hpad hvalid

/-- In a good state some line's condition holds when a micro-operation is selected: the notes add what I2 and I13 give. -/
theorem Invariants.selectionLine_of_nextUop {s : State} (hI : Invariants s) {c : BitVec 8} (h : nextUop s = some c) :
    true ∈ selectionLines s := by
  obtain ⟨herr, ⟨hrun, -⟩ | ⟨hadd, -⟩ | ⟨hidle, hfull, -⟩ | ⟨hidle, hfill, hpad⟩⟩ := nextUop_some_cases h
  · simp [selectionLines, herr, hrun]
  · simp [selectionLines, herr, hadd]
  · simp [selectionLines, herr, hidle, hfull]
  · have hroom := hI.fill_lt hfill
    obtain ⟨hmark, -⟩ | ⟨hzero, -⟩ | ⟨hlen, -⟩ | ⟨hdone, hvalid, -⟩ := hpad
    · simp [selectionLines, herr, hidle, hroom, hmark]
    · simp [selectionLines, herr, hidle, hroom, hzero]
    · simp [selectionLines, herr, hidle, hroom, hlen]
    · have hempty : s.fill = 0 := (hI.i13.2 hdone).resolve_right hfill
      simp [selectionLines, herr, hidle, hempty, hdone, hvalid]

/-- Settles O46: a line whose condition holds is selected, and a selected one has a line. -/
theorem selectionLinesAreExclusive : Obligations.SelectionLinesAreExclusive := by
  intro s hI
  refine ⟨selectionLines_count_le s, ?_, fun n => nextUop_of_selectionLine⟩
  rw [List.count_eq_zero]
  constructor
  · intro hnone hmem
    obtain ⟨n, hn, hline⟩ := List.mem_iff_getElem.1 hmem
    have hselected := nextUop_of_selectionLine hn ((List.getD_eq_getElem _ _ hn).trans hline)
    cases hnone.symm.trans hselected
  · intro hlines
    cases hn : nextUop s with
    | none => rfl
    | some c => exact absurd (hI.selectionLine_of_nextUop hn) hlines

end Sys2Proof.Machine

/-! The operation a slot performs, and a code placed where the next slot takes it from (30_encoding.md R85, R86; log 2). -/

namespace Sys2Proof.Machine

/-- Settles O8: the two kinds of slot that perform an operation. -/
theorem stepPerformsTheDecodedOperation : Obligations.StepPerformsTheDecodedOperation :=
  ⟨fun _ _ _ => step_of_nextUop, fun _ _ _ => step_of_accepted⟩

theorem step_of_slot_performs {s s' : State} {i : Instr} (h : slot s = .performs i s') : step s = exec i s' := by
  rw [step, h]

/-- The slot of a busy core performs the selected micro-operation. -/
theorem slot_of_nextUop {s : State} {c : BitVec 8} {i : Instr} (hr : s.host.head? ≠ some .reset)
    (hn : nextUop s = some c) (hd : decodeUop c = .ok i) (ht : s.engPhase = .run → s.t < 48) :
    slot s = .performs i (s.opened (untransferred s.host)) := by
  have hstep : ¬(s.engPhase = .run ∧ 48 ≤ s.t) := fun ⟨hrun, hle⟩ => BitVec.not_le.2 (ht hrun) hle
  simp only [slot_of_not_reset hr, unresetSlot, hn, sequencerSlot, State.opened_engPhase, State.opened_t, if_neg hstep, hd]

/-- A buffer that is emptied where it has no room is not full. -/
theorem emptied_ne_full (f : BitVec 7) : (if f.toNat < 64 then f else 0) ≠ 64 := by
  split
  · next hlt => exact fun hfull => by simp [hfull] at hlt
  · decide

/-- A core with a word placed at its port is ready. -/
theorem cmdReady_presenting (s : State) (w : BitVec 10) : (s.presenting w).cmdReady = true := by
  rw [State.presenting]
  by_cases hready : s.cmdReady = true
  · rw [if_pos hready]
    exact hready
  · rw [if_neg hready, State.cmdReady_iff_phases]
    refine ⟨rfl, rfl, emptied_ne_full s.fill, ?_⟩
    by_cases hdone : s.padPhase = .done ∧ s.digValid = true
    · exact .inr ⟨if_pos hdone, hdone.2⟩
    · exact .inl (if_neg hdone)

/-- A word placed at the port is performed. -/
theorem slot_presenting {s : State} {w : BitVec 10} {i : Instr} (hd : decodeCmd w = .ok i) :
    ∃ s', slot (s.presenting w) = .performs i s' := by
  have hslot := slot_of_presented (w := w) (cmdReady_presenting s w) rfl
  rw [accept, hd] at hslot
  exact ⟨_, hslot⟩

/-- For the code of a step the engine is set running at that step. -/
theorem selecting_stepCode (s : State) {t : BitVec 6} (ht : t < 48) :
    s.selecting (stepCode t) =
      { s with err := false, errCode := 0, host := (s.selecting 0x00).host, engPhase := .run, t := t } := by
  rw [BitVec.lt_def] at ht
  have hlo : 0x80 ≤ stepCode t := by
    rw [BitVec.le_def, toNat_stepCode]
    exact Nat.le_add_right 128 _
  have hhi : stepCode t < 0xB0 := by
    rw [BitVec.lt_def, toNat_stepCode]
    exact Nat.add_lt_add_left ht 128
  have hne : ∀ {c : BitVec 8}, ¬(0x80 ≤ c ∧ c < 0xB0) → stepCode t ≠ c := fun hc heq => hc (heq ▸ ⟨hlo, hhi⟩)
  simp only [State.selecting, if_neg (hne (c := 0x00) (by decide)), if_neg (hne (c := 0x01) (by decide)),
    if_neg (hne (c := 0x02) (by decide)), if_neg (hne (c := 0xB0) (by decide)), if_neg (hne (c := 0xBF) (by decide)),
    if_neg (hne (c := 0xC0) (by decide)), if_pos (And.intro hlo hhi), extractLsb'_stepCode, if_true]

/-- A reset at the port is put off before a micro-operation is selected. -/
theorem head_selecting_ne_reset (s : State) : (s.selecting 0x00).host.head? ≠ some .reset := by
  cases hhost : s.host with
  | nil => simp [State.selecting, hhost]
  | cons a rest => cases a <;> simp [State.selecting, hhost]

/-- A state made to select an assigned code selects it, with no reset at the port and no step that does not exist. -/
theorem selecting_selects (s : State) {c : BitVec 8} {i : Instr} (hd : decodeUop c = .ok i) :
    nextUop (s.selecting c) = some c ∧ (s.selecting c).host = (s.selecting 0x00).host ∧
      ((s.selecting c).engPhase = .run → (s.selecting c).t < 48) := by
  have hroom := emptied_ne_full s.fill
  obtain rfl | rfl | rfl | rfl | rfl | rfl | ⟨t, ht, rfl⟩ := assigned_cases hd
  · exact ⟨nextUop_of_mark rfl rfl hroom rfl, rfl, nofun⟩
  · exact ⟨nextUop_of_zero rfl rfl hroom rfl, rfl, nofun⟩
  · exact ⟨nextUop_of_len rfl rfl hroom rfl, rfl, nofun⟩
  · exact ⟨nextUop_of_add rfl rfl, rfl, nofun⟩
  · exact ⟨nextUop_of_full rfl rfl rfl, rfl, nofun⟩
  · exact ⟨nextUop_of_done rfl rfl hroom rfl rfl, rfl, nofun⟩
  · rw [selecting_stepCode s ht]
    exact ⟨nextUop_of_run rfl rfl, rfl, fun _ => ht⟩

/-- A number stands for an operation when it is a code and the code decodes. -/
theorem decodeTableWord_eq_some {nbits w : Nat} {i : Instr} (h : decodeTableWord nbits w = some i) :
    ∃ c, tableCode nbits w = some c ∧ decode c = .ok i := by
  unfold decodeTableWord at h
  split at h
  · next c hcode =>
    cases hd : decode c with
    | ok j =>
      rw [hd] at h
      cases h
      exact ⟨c, hcode, hd⟩
    | error e =>
      rw [hd] at h
      cases h
  · cases h

/-- Settles O9: a command word is accepted at the port, and a micro-operation code is selected. -/
theorem fetchWordRunsNext : Obligations.FetchWordRunsNext := by
  intro s nbits w i h
  suffices hslot : ∃ s', slot (s.withFetchWord nbits w) = .performs i s' by
    obtain ⟨s', hs'⟩ := hslot
    exact ⟨s', hs', step_of_slot_performs hs'⟩
  obtain ⟨code, hcode, hdecode⟩ := decodeTableWord_eq_some h
  rw [State.withFetchWord, hcode]
  cases code with
  | cmd v => exact slot_presenting hdecode
  | uop c =>
    obtain ⟨hselects, hhost, hstep⟩ := selecting_selects s hdecode
    exact ⟨_, slot_of_nextUop (hhost ▸ head_selecting_ne_reset s) hselects hdecode hstep⟩

end Sys2Proof.Machine

/-! Where an operation has no meaning, it stops by name (93_implementation_defined.md U2, U3; logs 6, 7, 15). -/

namespace Sys2Proof.Machine

/-- A full buffer refuses an emitting operation. -/
theorem State.ifRoom_of_le {s : State} (s' : State) (h : 64 ≤ s.fill.toNat) : s.ifRoom s' = .refused .bufferFull :=
  if_neg (Nat.not_lt.2 h)

/-- Settles O34: the emitting operations check the room, the two reads their index, and the sequencer's slot the step. -/
theorem stopsOutsideTheSpec : Obligations.StopsOutsideTheSpec := by
  refine ⟨fun s b hopen hfull => ?data, fun s hfull => ⟨?mark, ?zero, ?len⟩, fun s i hi => ?rdd,
    fun s i u hi => ?rdh, fun s hr herr hrun ht => ?noStep⟩
  case data => exact (if_pos hopen).trans (State.ifRoom_of_le _ hfull)
  case mark => exact State.ifRoom_of_le _ hfull
  case zero => exact (exec_padZero s).trans (State.ifRoom_of_le _ hfull)
  case len => exact (exec_padLen s).trans (State.ifRoom_of_le _ hfull)
  case rdd => exact if_neg (Nat.not_lt.2 hi)
  case rdh => exact if_neg (Nat.not_lt.2 hi)
  case noStep =>
    have hslot : sequencerSlot (stepCode s.t) (s.opened (untransferred s.host)) = .rejected .noSuchStep :=
      if_pos ⟨hrun, ht⟩
    simp only [step, slot_of_not_reset hr, unresetSlot, nextUop_of_run herr hrun, hslot]

end Sys2Proof.Machine

/-! What the host does next has no influence on a busy core (30_encoding.md R86, 70_reset_and_hazards.md R280). -/

namespace Sys2Proof.Machine

/-- The same core with another list of host actions. -/
def State.withHost (s : State) (h : List HostAct) : State := { s with host := h }

@[simp] theorem nextUop_withHost (s : State) (h : List HostAct) : nextUop (s.withHost h) = nextUop s :=
  nextUop_congr rfl rfl rfl rfl rfl rfl

theorem State.getReg_withHost (s : State) (h : List HostAct) (r : Reg) : (s.withHost h).getReg r = s.getReg r := by
  cases r <;> rfl

theorem State.setReg_withHost (s : State) (h : List HostAct) (r : Reg) (v : Word) :
    (s.withHost h).setReg r v = (s.setReg r v).withHost h := by
  cases r <;> rfl

theorem State.stepReg_withHost (s : State) (h : List HostAct) (T : Reg) (f : Word → Word → Word → Word) (x y z : Reg)
    (k : Nat) (K : Word) (sh : Nat) :
    (s.withHost h).stepReg T f x y z k K sh = (s.stepReg T f x y z k K sh).withHost h := by
  have hX : (s.withHost h).X k = s.X k := rfl
  simp only [State.stepReg, State.getReg_withHost, State.setReg_withHost, hX]

theorem State.stepByTables_withHost (s : State) (h : List HostAct) (n : BitVec 6) :
    (s.withHost h).stepByTables n = (s.stepByTables n).withHost h := by
  simp only [State.stepByTables, State.stepReg_withHost]
  split <;> rfl

/-- No operation reads what the host does next. -/
theorem Effect.withHost {s u : State} {i : Instr} (he : Effect s i u) (h : List HostAct) :
    Effect (s.withHost h) i (u.withHost h) := by
  cases he with
  | init => exact .init
  | data b hopen hroom => exact .data b hopen hroom
  | dataClosed b hclosed => exact .dataClosed b hclosed
  | final hopen => exact .final hopen
  | finalClosed hclosed => exact .finalClosed hclosed
  | rdd n hn hvalid => exact .rdd n hn hvalid
  | rddInvalid n hn hinvalid => exact .rddInvalid n hn hinvalid
  | rdh n c hn hvalid => exact .rdh n c hn hvalid
  | rdhInvalid n c hn hinvalid => exact .rdhInvalid n c hn hinvalid
  | padMark hroom => exact .padMark hroom
  | padZero hroom => exact .padZero hroom
  | padLen hroom => exact .padLen hroom
  | step n hi => exact s.stepByTables_withHost h n ▸ .step n hi
  | engSave => exact .engSave
  | engCombine => exact .engCombine
  | serLatch => exact .serLatch

/-- A busy core is not faulted and not ready, so with no reset at the port its step is a selected operation's. -/
theorem step_next_of_busy {s u : State} (hbusy : s.busy = true) (hr : s.host.head? ≠ some .reset)
    (h : step s = .next u) :
    ∃ c i, nextUop s = some c ∧ (s.engPhase = .run → s.t < 48) ∧ decodeUop c = .ok i ∧
      Effect (s.opened (untransferred s.host)) i u := by
  have hready : s.cmdReady ≠ true := by simp [State.cmdReady, hbusy]
  obtain ⟨rest, hhost, -⟩ | ⟨-, c, i, hn, hstep, hd, hexec⟩ | ⟨-, hready', -⟩ | ⟨-, hready', -⟩ | ⟨-, hready', -⟩ |
    ⟨herr, -⟩ := step_next_cases h
  · exact absurd (congrArg List.head? hhost) hr
  · exact ⟨c, i, hn, fun hrun => BitVec.not_le.1 fun hle => hstep ⟨hrun, hle⟩, hd, effect_of_exec hexec⟩
  · exact absurd hready' hready
  · exact absurd hready' hready
  · exact absurd hready' hready
  · simp [State.busy, nextUop_of_err herr] at hbusy

/-- A busy core takes the same step whatever the host does, short of a reset. -/
theorem step_withHost_of_busy {s u : State} (hbusy : s.busy = true) (hr : s.host.head? ≠ some .reset)
    (h : step s = .next u) {l : List HostAct} (hl : l.head? ≠ some .reset) :
    step (s.withHost l) = .next (u.withHost (untransferred l)) := by
  obtain ⟨c, i, hn, ht, hd, heff⟩ := step_next_of_busy hbusy hr h
  have hstep : step (s.withHost l) = exec i (s.opened (untransferred l)) :=
    step_of_nextUop hl ((nextUop_withHost s l).trans hn) hd ht
  exact hstep.trans (heff.withHost (untransferred l)).exec_eq

/-- Settles O43: the held word is not transferred, and the step is the same with any other word or with none. -/
theorem heldWordHasNoEffectWhileBusy : Obligations.HeldWordHasNoEffectWhileBusy := by
  intro s u w w' rest rest' hbusy hhost h
  have hr : s.host.head? ≠ some .reset := by simp [hhost]
  have hother : ∀ l : List HostAct, l.head? ≠ some .reset →
      step (s.withHost l) = .next (u.withHost (untransferred l)) := fun _ => step_withHost_of_busy hbusy hr h
  obtain ⟨c, i, -, -, -, heff⟩ := step_next_of_busy hbusy hr h
  refine ⟨?_, hother (.hold w' :: rest') nofun, hother (.offer w' :: rest') nofun, hother (.pause :: rest') nofun,
    hother [] nofun⟩
  rw [heff.host_eq, State.opened_host, hhost]
  rfl

end Sys2Proof.Machine

/-! What selects the micro-operations of the padder, and what their flag is (40_padder.md R102 to R104, 30_encoding.md R85). -/

namespace Sys2Proof.Machine

/-- Each micro-operation of the padder is selected in one phase of the padder, where no engine line applies. -/
theorem nextUop_eq_padder_code_iff {s : State} {p : PadPhase} {c : BitVec 8}
    (hline : (p = .mark ∧ c = 0x00) ∨ (p = .zero ∧ c = 0x01) ∨ (p = .len ∧ c = 0x02)) :
    nextUop s = some c ↔ s.err = false ∧ s.padPhase = p ∧ s.engPhase = .idle ∧ s.fill ≠ 64 := by
  constructor
  · intro h
    have hcode : c ≤ 0x02 := by obtain ⟨-, rfl⟩ | ⟨-, rfl⟩ | ⟨-, rfl⟩ := hline <;> decide
    obtain ⟨herr, ⟨-, rfl⟩ | ⟨-, rfl⟩ | ⟨-, -, rfl⟩ | ⟨hidle, hfill, hpad⟩⟩ := nextUop_some_cases h
    · exact absurd hcode (not_stepCode_le s.t)
    · exact absurd hcode (by decide)
    · exact absurd hcode (by decide)
    · have hphase : s.padPhase = p := by
        obtain ⟨rfl, rfl⟩ | ⟨rfl, rfl⟩ | ⟨rfl, rfl⟩ := hline <;> simpa using hpad
      exact ⟨herr, hphase, hidle, hfill⟩
  · rintro ⟨herr, hpad, hidle, hfill⟩
    obtain ⟨rfl, rfl⟩ | ⟨rfl, rfl⟩ | ⟨rfl, rfl⟩ := hline
    · exact nextUop_of_mark herr hidle hfill hpad
    · exact nextUop_of_zero herr hidle hfill hpad
    · exact nextUop_of_len herr hidle hfill hpad

/-- A core that still owes bytes of the padding is busy, whatever the engine does: it is neither faulted nor ready. -/
theorem State.busy_of_padding {s : State} (herr : s.err = false)
    (hpad : s.padPhase = .mark ∨ s.padPhase = .zero ∨ s.padPhase = .len) : s.busy = true := by
  refine Option.isSome_iff_ne_none.2 fun hnone => ?_
  obtain herr' | hready := nextUop_none_iff.1 hnone
  · exact Bool.false_ne_true (herr.symm.trans herr')
  · obtain ⟨-, -, -, hready⟩ := State.cmdReady_iff_phases.1 hready
    obtain h | h | h := hpad <;> simp [h] at hready

/-- After the marker or a zero byte the padding goes on: with a further zero byte or with the length field. -/
theorem phaseAfterPad_eq_zero_or_len (pos : BitVec 6) : phaseAfterPad pos = .zero ∨ phaseAfterPad pos = .len := by
  by_cases hpos : pos = 56
  · exact .inr (if_pos hpos)
  · exact .inl (if_neg hpos)

/-- Settles O23. The flag: the padder owes zero bytes or the length after the marker. -/
theorem padMarkAppendsTheMarker : Obligations.PadMarkAppendsTheMarker := by
  refine ⟨rfl, fun _ => nextUop_eq_padder_code_iff (.inl ⟨rfl, rfl⟩), fun _ hroom => (Effect.padMark hroom).exec_eq, ?_⟩
  intro s u herr hexec
  obtain ⟨-, rfl⟩ := State.ifRoom_next.1 hexec
  exact State.busy_of_padding herr (.inr (phaseAfterPad_eq_zero_or_len (s.pos + 1)))

/-- Settles O24. The flag: a zero byte performed in `P_ZERO` is followed by a further one or by the length. -/
theorem padZeroAppendsAZeroByte : Obligations.PadZeroAppendsAZeroByte := by
  refine ⟨rfl, fun _ => nextUop_eq_padder_code_iff (.inr (.inl ⟨rfl, rfl⟩)),
    fun _ hroom => (Effect.padZero hroom).exec_eq, ?_⟩
  intro s u herr hzero hexec
  rw [exec_padZero, hzero] at hexec
  obtain ⟨-, rfl⟩ := State.ifRoom_next.1 hexec
  exact State.busy_of_padding herr (.inr (phaseAfterPad_eq_zero_or_len (s.pos + 1)))

/-- PAD.LEN before byte 7 goes to the next length byte (40_padder.md R104). -/
theorem exec_padLen_of_ne {s : State} (hroom : s.fill.toNat < 64) (hmore : s.lenIdx ≠ 7) :
    exec .padLen s = .next (s.padTo (byteOf s.bitlen s.lenIdx.toNat) s.padPhase (s.lenIdx + 1)) := by
  rw [(Effect.padLen hroom).exec_eq, if_neg hmore, if_neg hmore]

/-- PAD.LEN at byte 7 completes the padded message (40_padder.md R104). -/
theorem exec_padLen_last {s : State} (hroom : s.fill.toNat < 64) (hlast : s.lenIdx = 7) :
    exec .padLen s = .next (s.padTo (byteOf s.bitlen 7) .done 0) := by
  rw [(Effect.padLen hroom).exec_eq, if_pos hlast, if_pos hlast, hlast]
  rfl

/-- Settles O25. The flag: before byte 7 the padder owes a further length byte, and byte 7 fills the block. -/
theorem padLenAppendsALengthByte : Obligations.PadLenAppendsALengthByte := by
  refine ⟨rfl, fun _ => nextUop_eq_padder_code_iff (.inr (.inr ⟨rfl, rfl⟩)), fun _ => exec_padLen_of_ne,
    fun _ => exec_padLen_last, ?_⟩
  intro s u herr hlen hidle hfill hexec
  have hroom : s.fill.toNat < 64 := by omega
  by_cases hlast : s.lenIdx = 7
  · obtain rfl := Host.Outcome.next.inj ((exec_padLen_last hroom hlast).symm.trans hexec)
    have hfull : s.fill + 1 = 64 := BitVec.eq_of_toNat_eq (by simp [hfill, hlast])
    have hsave : nextUop (s.padTo (byteOf s.bitlen 7) .done 0) = some 0xBF := nextUop_of_full herr hidle hfull
    exact ⟨Option.isSome_of_eq_some hsave, fun _ => hsave⟩
  · obtain rfl := Host.Outcome.next.inj ((exec_padLen_of_ne hroom hlast).symm.trans hexec)
    exact ⟨State.busy_of_padding herr (.inr (.inr hlen)), fun h => absurd h hlast⟩

end Sys2Proof.Machine

/-! The length of the padded message (40_padder.md R100, R107). -/

namespace Sys2Proof.Machine

/-- The zero bytes are fewer than a Block, and with them the length field begins at byte 56 of a Block. -/
theorem padZeros_spec (n : Nat) : padZeros n ≤ 63 ∧ (n + padZeros n) % 64 = 55 := by
  unfold padZeros
  omega

theorem pad_length (M : List Byte) : (pad M).length = M.length + 1 + padZeros M.length + 8 := by
  simp only [pad, zeros, le64bytes, List.length_append, List.length_singleton, List.length_replicate, List.length_map,
    List.length_range]

/-- The padded message is `NB` Blocks long: `NB` rounds the message with its marker and length field up to whole Blocks. -/
theorem paddedLength_eq_numBlocks (n : Nat) : n + 1 + padZeros n + 8 = 64 * numBlocks n := by
  obtain ⟨hz, hmod⟩ := padZeros_spec n
  unfold numBlocks
  omega

/-- One Block more than the full ones of the message, and a further one where the length field has no room in it. -/
theorem numBlocks_eq (n : Nat) : numBlocks n = n / 64 + 1 + (if 56 ≤ n % 64 then 1 else 0) := by
  unfold numBlocks
  split <;> omega

/-- Settles O58: the count of zero bytes fixes the length, and a multiple of 64 below it is too short for the message. -/
theorem paddedLengthIsTheSmallestMultiple : Obligations.PaddedLengthIsTheSmallestMultiple := by
  intro M n z
  have hlength : (pad M).length = n + 1 + z + 8 := pad_length M
  obtain ⟨hz, hmod⟩ : z ≤ 63 ∧ (n + z) % 64 = 55 := padZeros_spec n
  have hmultiple : (pad M).length % 64 = 0 := by omega
  have hleast : ∀ L, L % 64 = 0 → n + 9 ≤ L → (pad M).length ≤ L := fun L _ _ => by omega
  exact ⟨rfl, hz, hmod, hlength, hmultiple, by omega, hleast, hlength.trans (paddedLength_eq_numBlocks n), numBlocks_eq n⟩

end Sys2Proof.Machine

/-! The words of a step: the rotation loses no bits, and the round functions bit by bit (42_compression_engine.md R132, R189). -/

namespace Sys2Proof.Machine

/-- A rotation by `s` and one by `r` that make up the width cancel: a bit moves to `i + s`, and from there back to `i`. -/
theorem rotl32_rotl32_cancel (x : Word) {s r : Nat} (hs : 1 ≤ s) (hr : 1 ≤ r) (hsum : s + r = 32) :
    rotl32 (rotl32 x s) r = x := by
  refine BitVec.eq_of_getLsbD_eq fun i hi => ?_
  have hback : ((i + s) % 32 + r) % 32 = i := by omega
  calc (rotl32 (rotl32 x s) r).getLsbD i
      = (rotl32 (rotl32 x s) r).getLsbD (((i + s) % 32 + r) % 32) := by rw [hback]
    _ = (rotl32 x s).getLsbD ((i + s) % 32) :=
        rotateMovesEachBit (rotl32 x s) r _ hr (by omega) (Nat.mod_lt _ (by decide))
    _ = x.getLsbD i := rotateMovesEachBit x s i hs (by omega) hi

/-- Settles O12: the rotation by the rest of the width is the inverse. -/
theorem rotateIsABijection : Obligations.RotateIsABijection := by
  have hrange : ∀ s ∈ [3, 5, 7, 9, 11, 13, 15, 19], 1 ≤ s ∧ s ≤ 31 := by decide
  intro s hs
  obtain ⟨hlo, hhi⟩ := hrange s hs
  exact Function.bijective_iff_has_inverse.2 ⟨fun y => rotl32 y (32 - s),
    fun x => rotl32_rotl32_cancel x hlo (by omega) (by omega),
    fun y => rotl32_rotl32_cancel y (by omega) hlo (by omega)⟩

theorem getLsbD_roundF (x y z : Word) {b : Nat} (hb : b < 32) :
    (roundF x y z).getLsbD b = if x.getLsbD b then y.getLsbD b else z.getLsbD b := by
  simp only [roundF, not32, BitVec.getLsbD_or, BitVec.getLsbD_and, BitVec.getLsbD_not, hb, decide_true, Bool.true_and]
  cases x.getLsbD b <;> simp

theorem getLsbD_roundG (x y z : Word) (b : Nat) : (roundG x y z).getLsbD b =
    decide (2 ≤ (x.getLsbD b).toNat + (y.getLsbD b).toNat + (z.getLsbD b).toNat) := by
  have hmajority : ∀ p q r : Bool, (p && q || p && r || q && r) = decide (2 ≤ p.toNat + q.toNat + r.toNat) := by decide
  simp only [roundG, BitVec.getLsbD_or, BitVec.getLsbD_and, hmajority]

theorem getLsbD_roundH (x y z : Word) (b : Nat) : (roundH x y z).getLsbD b =
    decide (((x.getLsbD b).toNat + (y.getLsbD b).toNat + (z.getLsbD b).toNat) % 2 = 1) := by
  have hparity : ∀ p q r : Bool, (p ^^ q ^^ r) = decide ((p.toNat + q.toNat + r.toNat) % 2 = 1) := by decide
  simp only [roundH, BitVec.getLsbD_xor, hparity]

/-- Settles O13: the formulas are the definitions, and bit `b` of a round function reads bit `b` of each operand. -/
theorem roundFunctionsBitByBit : Obligations.RoundFunctionsBitByBit :=
  fun x y z => ⟨rfl, rfl, rfl, fun b hb => ⟨getLsbD_roundF x y z hb, getLsbD_roundG x y z b, getLsbD_roundH x y z b⟩⟩

/-- Settles O14: the sixteen entries of each table. -/
theorem wordOrdersHaveClosedForms : Obligations.WordOrdersHaveClosedForms := by
  unfold Obligations.WordOrdersHaveClosedForms
  decide

end Sys2Proof.Machine

/-! The general rule of the steps (42_compression_engine.md R135) through the rotating 4-tuple of R136: the register a step
replaces, then its three operands. -/

namespace Sys2Proof.Machine

/-- The Digest State as step `n` sees it: its target register first, then its operands (42_compression_engine.md R136). -/
def State.window (s : State) (n : Nat) : DigestState :=
  ⟨s.getReg (tgt (n % 4)), s.getReg (ops (n % 4)).1, s.getReg (ops (n % 4)).2.1, s.getReg (ops (n % 4)).2.2⟩

/-- The word step `n` writes (42_compression_engine.md R135). -/
def State.stepValue (s : State) (n : Nat) : Word :=
  let q := s.window n
  rotl32 (add32x4 q.A (roundFn (n / 16) q.B q.C q.D) (s.X (kidx (n / 16) (n % 16))) (roundK (n / 16)))
    (rotAmount (n / 16) (n % 4))

/-- The round, the step number within it and its last two bits, read off the step index (10_state.md R29). -/
theorem stepIndex_fields (t : BitVec 6) : (t.extractLsb' 4 2).toNat = t.toNat / 16 ∧
    (t.extractLsb' 0 4).toNat = t.toNat % 16 ∧ (t.extractLsb' 0 2).toNat = t.toNat % 4 := by
  have ht := t.isLt
  simp only [BitVec.extractLsb'_toNat, Nat.shiftRight_eq_div_pow, Nat.reducePow, Nat.div_one, and_self, and_true]
  omega

/-- Step `t` writes its one word and hands over to the next operation. -/
theorem State.stepByTables_eq (s : State) (t : BitVec 6) :
    s.stepByTables t =
      if t = 47 then (s.setReg (tgt (t.toNat % 4)) (s.stepValue t.toNat)).thenCombine
      else (s.setReg (tgt (t.toNat % 4)) (s.stepValue t.toNat)).thenStep (t + 1) := by
  obtain ⟨hround, hword, hturn⟩ := stepIndex_fields t
  simp only [State.stepByTables, hround, hword, hturn]
  rfl

/-- Settles O31: the code names the step, and the step is the general rule. -/
theorem everyStepIsAnInstanceOfTheGeneralRule : Obligations.EveryStepIsAnInstanceOfTheGeneralRule := by
  refine ⟨fun s => nextUop_of_run, fun s t i ht hd => ?_⟩
  have hexec := exec_of_stepIndex (stepIndex_of_decodeUop_stepCode ht hd) s
  exact ⟨toNat_stepCode t, encode_of_decodeUop hd, hexec.trans (congrArg _ (s.stepByTables_eq t)), hexec⟩

end Sys2Proof.Machine

/-! Each step from its own rule (42_compression_engine.md R140 to R187): the function, the word, the constant, the amount and the
next step are those of its row, and the lemmas below, one for each target register, say what a row does. -/

namespace Sys2Proof.Machine

section Rows

variable {s : State} {i : Instr} {f : Word → Word → Word → Word} {k sh : Nat} {K w : Word} {n : BitVec 6}

theorem exec_row_A (h : exec i s = .next ((s.stepReg .A f .B .C .D k K sh).thenStep n))
    (hw : s.A + f s.B s.C s.D + s.X k + K = w) : exec i s = .next { s with A := rotl32 w sh, t := n } := by
  subst hw
  exact h

theorem exec_row_D (h : exec i s = .next ((s.stepReg .D f .A .B .C k K sh).thenStep n))
    (hw : s.D + f s.A s.B s.C + s.X k + K = w) : exec i s = .next { s with D := rotl32 w sh, t := n } := by
  subst hw
  exact h

theorem exec_row_C (h : exec i s = .next ((s.stepReg .C f .D .A .B k K sh).thenStep n))
    (hw : s.C + f s.D s.A s.B + s.X k + K = w) : exec i s = .next { s with C := rotl32 w sh, t := n } := by
  subst hw
  exact h

theorem exec_row_B (h : exec i s = .next ((s.stepReg .B f .C .D .A k K sh).thenStep n))
    (hw : s.B + f s.C s.D s.A + s.X k + K = w) : exec i s = .next { s with B := rotl32 w sh, t := n } := by
  subst hw
  exact h

/-- The last step names no next one: ENG.COMBINE follows (42_compression_engine.md R187). -/
theorem exec_last_row (h : exec i s = .next (s.stepReg .B f .C .D .A k K sh).thenCombine)
    (hw : s.B + f s.C s.D s.A + s.X k + K = w) :
    exec i s = .next { s with B := rotl32 w sh, engPhase := .add, t := 0 } := by
  subst hw
  exact h

end Rows

/-- Settles O27: all twelve are steps of round 1, whose constant is zero. -/
theorem stepsZeroToElevenUpdateTheirRegister : Obligations.StepsZeroToElevenUpdateTheirRegister :=
  ⟨⟨rfl, fun _ => exec_row_A rfl (BitVec.add_zero _)⟩, ⟨rfl, fun _ => exec_row_D rfl (BitVec.add_zero _)⟩,
   ⟨rfl, fun _ => exec_row_C rfl (BitVec.add_zero _)⟩, ⟨rfl, fun _ => exec_row_B rfl (BitVec.add_zero _)⟩,
   ⟨rfl, fun _ => exec_row_A rfl (BitVec.add_zero _)⟩, ⟨rfl, fun _ => exec_row_D rfl (BitVec.add_zero _)⟩,
   ⟨rfl, fun _ => exec_row_C rfl (BitVec.add_zero _)⟩, ⟨rfl, fun _ => exec_row_B rfl (BitVec.add_zero _)⟩,
   ⟨rfl, fun _ => exec_row_A rfl (BitVec.add_zero _)⟩, ⟨rfl, fun _ => exec_row_D rfl (BitVec.add_zero _)⟩,
   ⟨rfl, fun _ => exec_row_C rfl (BitVec.add_zero _)⟩, ⟨rfl, fun _ => exec_row_B rfl (BitVec.add_zero _)⟩⟩

/-- Settles O28: the last four steps of round 1, whose constant is zero, then the first eight of round 2. -/
theorem stepsTwelveToTwentyThreeUpdateTheirRegister : Obligations.StepsTwelveToTwentyThreeUpdateTheirRegister :=
  ⟨⟨rfl, fun _ => exec_row_A rfl (BitVec.add_zero _)⟩, ⟨rfl, fun _ => exec_row_D rfl (BitVec.add_zero _)⟩,
   ⟨rfl, fun _ => exec_row_C rfl (BitVec.add_zero _)⟩, ⟨rfl, fun _ => exec_row_B rfl (BitVec.add_zero _)⟩,
   ⟨rfl, fun _ => exec_row_A rfl rfl⟩, ⟨rfl, fun _ => exec_row_D rfl rfl⟩,
   ⟨rfl, fun _ => exec_row_C rfl rfl⟩, ⟨rfl, fun _ => exec_row_B rfl rfl⟩,
   ⟨rfl, fun _ => exec_row_A rfl rfl⟩, ⟨rfl, fun _ => exec_row_D rfl rfl⟩,
   ⟨rfl, fun _ => exec_row_C rfl rfl⟩, ⟨rfl, fun _ => exec_row_B rfl rfl⟩⟩

/-- Settles O29: the last eight steps of round 2, then the first four of round 3. -/
theorem stepsTwentyFourToThirtyFiveUpdateTheirRegister : Obligations.StepsTwentyFourToThirtyFiveUpdateTheirRegister :=
  ⟨⟨rfl, fun _ => exec_row_A rfl rfl⟩, ⟨rfl, fun _ => exec_row_D rfl rfl⟩,
   ⟨rfl, fun _ => exec_row_C rfl rfl⟩, ⟨rfl, fun _ => exec_row_B rfl rfl⟩,
   ⟨rfl, fun _ => exec_row_A rfl rfl⟩, ⟨rfl, fun _ => exec_row_D rfl rfl⟩,
   ⟨rfl, fun _ => exec_row_C rfl rfl⟩, ⟨rfl, fun _ => exec_row_B rfl rfl⟩,
   ⟨rfl, fun _ => exec_row_A rfl rfl⟩, ⟨rfl, fun _ => exec_row_D rfl rfl⟩,
   ⟨rfl, fun _ => exec_row_C rfl rfl⟩, ⟨rfl, fun _ => exec_row_B rfl rfl⟩⟩

/-- Settles O30: the last twelve steps of round 3; after the very last ENG.COMBINE follows. -/
theorem stepsThirtySixToFortySevenUpdateTheirRegister : Obligations.StepsThirtySixToFortySevenUpdateTheirRegister :=
  ⟨⟨rfl, fun _ => exec_row_A rfl rfl⟩, ⟨rfl, fun _ => exec_row_D rfl rfl⟩,
   ⟨rfl, fun _ => exec_row_C rfl rfl⟩, ⟨rfl, fun _ => exec_row_B rfl rfl⟩,
   ⟨rfl, fun _ => exec_row_A rfl rfl⟩, ⟨rfl, fun _ => exec_row_D rfl rfl⟩,
   ⟨rfl, fun _ => exec_row_C rfl rfl⟩, ⟨rfl, fun _ => exec_row_B rfl rfl⟩,
   ⟨rfl, fun _ => exec_row_A rfl rfl⟩, ⟨rfl, fun _ => exec_row_D rfl rfl⟩,
   ⟨rfl, fun _ => exec_row_C rfl rfl⟩, ⟨rfl, fun _ => exec_last_row rfl rfl⟩⟩

end Sys2Proof.Machine

/-! The two operations at the ends of a Block (42_compression_engine.md R131, R188). -/

namespace Sys2Proof.Machine

/-- The codes of the steps end below ENG.COMBINE. -/
theorem stepCode_lt {t : BitVec 6} (ht : t < 48) : stepCode t < 0xB0 := by
  rw [BitVec.lt_def] at ht ⊢
  rw [toNat_stepCode]
  exact Nat.add_lt_add_left ht 0x80

/-- ENG.SAVE is the line of 30_encoding.md R85 for a full buffer. -/
theorem nextUop_eq_engSave_iff {s : State} (ht : s.t < 48) :
    nextUop s = some 0xBF ↔ s.err = false ∧ s.engPhase = .idle ∧ s.fill = 64 := by
  refine ⟨fun h => ?_, fun ⟨herr, hidle, hfull⟩ => nextUop_of_full herr hidle hfull⟩
  obtain ⟨herr, ⟨-, hcode⟩ | ⟨-, hcode⟩ | ⟨hidle, hfull, -⟩ | ⟨-, -, hpad⟩⟩ := nextUop_some_cases h
  · exact absurd (stepCode_lt ht) (by rw [← hcode]; decide)
  · exact absurd hcode (by decide)
  · exact ⟨herr, hidle, hfull⟩
  · simp at hpad

/-- ENG.COMBINE is the line of 30_encoding.md R85 for the end of the steps. -/
theorem nextUop_eq_engCombine_iff {s : State} (ht : s.t < 48) :
    nextUop s = some 0xB0 ↔ s.err = false ∧ s.engPhase = .add := by
  refine ⟨fun h => ?_, fun ⟨herr, hadd⟩ => nextUop_of_add herr hadd⟩
  obtain ⟨herr, ⟨-, hcode⟩ | ⟨hadd, -⟩ | ⟨-, -, hcode⟩ | ⟨-, -, hpad⟩⟩ := nextUop_some_cases h
  · exact absurd (stepCode_lt ht) (by rw [← hcode]; decide)
  · exact ⟨herr, hadd⟩
  · exact absurd hcode (by decide)
  · simp at hpad

/-- Settles O26. The flag: the engine runs after ENG.SAVE. -/
theorem engSaveCopiesTheDigestState : Obligations.EngSaveCopiesTheDigestState := by
  refine ⟨rfl, fun _ => nextUop_eq_engSave_iff, fun _ => rfl, fun s u herr hexec => ?_⟩
  obtain rfl := Host.Outcome.next.inj hexec
  exact Option.isSome_of_eq_some (nextUop_of_run herr rfl)

/-- With the engine idle, room in the buffer and no digest, the core is busy exactly where the padder has a closed message. -/
theorem State.busy_iff_of_idle {s : State} (herr : s.err = false) (hidle : s.engPhase = .idle) (hfill : s.fill ≠ 64)
    (hvalid : s.digValid = false) : s.busy = true ↔ s.padPhase ≠ .msg := by
  rw [State.busy, Option.isSome_iff_ne_none, Ne, nextUop_of_idle_none_iff herr hidle hfill]
  simp [hvalid]

/-- Settles O32. The flag: with the engine idle and the buffer empty the padder's phase decides. -/
theorem engCombineAddsTheSavedState : Obligations.EngCombineAddsTheSavedState := by
  refine ⟨rfl, fun _ => nextUop_eq_engCombine_iff, fun _ => rfl, fun s u herr hvalid hexec => ?_⟩
  obtain rfl := Host.Outcome.next.inj hexec
  exact State.busy_iff_of_idle herr rfl (by simp) hvalid

end Sys2Proof.Machine

/-! The Block as one transition (42_compression_engine.md R136, R190): the 4-tuple rotates with each step, so after the
forty-eight steps it stands where it began, and the registers hold what `Compress` computes. -/

namespace Sys2Proof.Machine

/-- A quiet host holds its word for as long as it is not taken, and brings no reset. -/
theorem HostQuiet.untransferred_eq {s : State} (hq : HostQuiet s) : untransferred s.host = s.host := by
  obtain hhost | ⟨w, rest, hhost⟩ := hq <;> rw [hhost] <;> rfl

theorem HostQuiet.head_ne_reset {s : State} (hq : HostQuiet s) : s.host.head? ≠ some .reset := by
  obtain hhost | ⟨w, rest, hhost⟩ := hq <;> simp [hhost]

/-- Under a quiet host a selected micro-operation is performed on the state as it is, with the response of the slot before
cleared. -/
theorem step_of_quiet {s : State} {c : BitVec 8} {i : Instr} (hq : HostQuiet s) (hn : nextUop s = some c)
    (hd : decodeUop c = .ok i) (ht : s.engPhase = .run → s.t < 48) : step s = exec i { s with rsp := none } := by
  rw [step_of_nextUop hq.head_ne_reset hn hd ht, hq.untransferred_eq]
  rfl

/-- The state ENG.SAVE leaves under a quiet host (42_compression_engine.md R131). -/
def State.saved (s : State) : State :=
  { s with AA := s.A, BB := s.B, CC := s.C, DD := s.D, t := 0, engPhase := .run, rsp := none }

/-- An idle engine with a full buffer saves the Digest State. -/
theorem step_of_full {s : State} (hq : HostQuiet s) (herr : s.err = false) (hidle : s.engPhase = .idle)
    (hfull : s.fill = 64) : step s = .next s.saved :=
  step_of_quiet hq (nextUop_of_full herr hidle hfull) rfl fun hrun => nomatch hidle.symm.trans hrun

/-- An engine at the end of its steps combines. -/
theorem step_of_add {s : State} (hq : HostQuiet s) (herr : s.err = false) (hadd : s.engPhase = .add) :
    step s = exec .engCombine { s with rsp := none } :=
  step_of_quiet hq (nextUop_of_add herr hadd) rfl fun hrun => nomatch hadd.symm.trans hrun

/-- A running engine performs the step `t` names. -/
theorem step_of_running {s : State} (hq : HostQuiet s) (herr : s.err = false) (hrun : s.engPhase = .run)
    (ht : s.t < 48) : step s = .next ({ s with rsp := none }.stepByTables s.t) := by
  obtain ⟨i, hd⟩ := decodeUop_stepCode_isOk ht
  rw [step_of_quiet hq (nextUop_of_run herr hrun) hd fun _ => ht,
    exec_of_stepIndex (stepIndex_of_decodeUop_stepCode ht hd)]

theorem State.getReg_stepByTables (s : State) (t : BitVec 6) (q : Reg) :
    (s.stepByTables t).getReg q = (s.setReg (tgt (t.toNat % 4)) (s.stepValue t.toNat)).getReg q := by
  rw [State.stepByTables_eq]
  split <;> cases q <;> rfl

/-- Writing its target register turns the window of step `n` on by one place. -/
theorem State.window_setReg (s : State) (n : Nat) (v : Word) :
    (s.setReg (tgt (n % 4)) v).window (n + 1) = ⟨(s.window n).D, v, (s.window n).B, (s.window n).C⟩ := by
  have hnext : (n + 1) % 4 = (n % 4 + 1) % 4 := by omega
  simp only [State.window, hnext]
  have hturn := Nat.mod_lt n (show 0 < 4 by decide)
  generalize n % 4 = j at hturn
  interval_cases j <;> rfl

/-- The steps read the sixteen words of the schedule. -/
theorem getD_schedule (s : State) {n : Nat} (hn : n < 48) :
    ((List.range 16).map s.X).getD (kidx (n / 16) (n % 16)) 0 = s.X (kidx (n / 16) (n % 16)) := by
  have hword : ∀ n < 48, kidx (n / 16) (n % 16) < 16 := by decide
  rw [List.getD_eq_getElem _ _ (by simpa using hword n hn), List.getElem_map, List.getElem_range]

/-- A step is one turn of the rotating 4-tuple (42_compression_engine.md R136). -/
theorem State.window_stepByTables (s : State) {t : BitVec 6} (ht : t < 48) :
    (s.stepByTables t).window (t.toNat + 1) =
      compressStep ((List.range 16).map s.X) (s.window t.toNat) t.toNat := by
  have hvalue : (s.stepByTables t).window (t.toNat + 1) =
      (s.setReg (tgt (t.toNat % 4)) (s.stepValue t.toNat)).window (t.toNat + 1) := by
    simp only [State.window, State.getReg_stepByTables]
  rw [hvalue, State.window_setReg, compressStep, getD_schedule s (BitVec.lt_def.1 ht)]
  rfl

/-- `u` is where the engine stands when `n` steps of the Block that `s` starts are done: the registers hold the first `n`
turns of `Compress`, the sequencer names the next operation, and nothing else has changed. -/
structure StepsDone (s : State) (n : Nat) (u : State) : Prop where
  frame : ∃ A B C D, u = { s with
    A := A, B := B, C := C, D := D
    engPhase := if n = 48 then .add else .run, t := if n = 48 then 0 else BitVec.ofNat 6 n }
  window : u.window n = (List.range n).foldl (compressStep ((List.range 16).map s.X)) (s.window 0)

namespace StepsDone

variable {s u : State} {n : Nat}

theorem start (hrun : s.engPhase = .run) (ht : s.t = 0) : StepsDone s 0 s := by
  have hzero : BitVec.ofNat 6 0 = s.t := ht.symm
  exact ⟨⟨s.A, s.B, s.C, s.D, by rw [if_neg (by decide), if_neg (by decide), hzero, ← hrun]⟩, rfl⟩

/-- Before the last step is done, the next slot performs step `n`. -/
theorem step_eq (h : StepsDone s n u) (hn : n < 48) (hq : HostQuiet s) (herr : s.err = false) (hrsp : s.rsp = none) :
    step u = .next (u.stepByTables (BitVec.ofNat 6 n)) := by
  obtain ⟨⟨A, B, C, D, hu⟩, -⟩ := h
  rw [if_neg hn.ne, if_neg hn.ne] at hu
  obtain ⟨hq', herr', hrun', ht', hrsp'⟩ : HostQuiet u ∧ u.err = false ∧ u.engPhase = .run ∧
      u.t = BitVec.ofNat 6 n ∧ u.rsp = none := by
    rw [hu]
    exact ⟨hq, herr, rfl, rfl, hrsp⟩
  have hlt : u.t < 48 := by
    rw [ht', BitVec.lt_def, BitVec.toNat_ofNat]
    exact (Nat.mod_le n _).trans_lt hn
  have hkeep : { u with rsp := none } = u := by rw [← hrsp']
  rw [step_of_running hq' herr' hrun' hlt, hkeep, ht']

/-- Step `n` is one more step done. -/
theorem succ (h : StepsDone s n u) (hn : n < 48) : StepsDone s (n + 1) (u.stepByTables (BitVec.ofNat 6 n)) := by
  obtain ⟨⟨A, B, C, D, hu⟩, hwindow⟩ := h
  have hidx : (BitVec.ofNat 6 n).toNat = n := by rw [BitVec.toNat_ofNat]; omega
  rw [if_neg hn.ne, if_neg hn.ne] at hu
  constructor
  case frame =>
    obtain ⟨A', B', C', D', hframe⟩ := u.stepByTables_frame (BitVec.ofNat 6 n)
    have hlast : BitVec.ofNat 6 n = 47 ↔ n + 1 = 48 := by
      rw [← BitVec.toNat_inj, hidx]
      exact Nat.succ_inj.symm
    refine ⟨A', B', C', D', ?_⟩
    rw [hframe, hu]
    simp only [hlast, BitVec.ofNat_add]
    rfl
  case window =>
    have hturn := u.window_stepByTables (t := BitVec.ofNat 6 n) (by rw [BitVec.lt_def, hidx]; exact hn)
    have hX : u.X = s.X := by rw [hu]; rfl
    rw [hidx, hX, hwindow] at hturn
    rw [hturn, List.range_succ (n := n), List.foldl_append]
    rfl

end StepsDone

/-- A running engine gets through the steps of its Block. -/
theorem run_stepsDone {s : State} (hrun : s.engPhase = .run) (ht : s.t = 0) (hq : HostQuiet s) (herr : s.err = false)
    (hrsp : s.rsp = none) {n : Nat} (hn : n ≤ 48) : ∃ u, Sys2Proof.core.run n s = .next u ∧ StepsDone s n u := by
  induction n with
  | zero => exact ⟨s, run_zero s, .start hrun ht⟩
  | succ n ih =>
    obtain ⟨u, hu, hdone⟩ := ih (by omega)
    have hstep := hdone.step_eq hn hq herr hrsp
    exact ⟨_, (run_add_of_run n 1 hu).trans (run_succ_of_step 0 hstep), hdone.succ hn⟩

/-- Settles O51: ENG.SAVE, the forty-eight steps, and ENG.COMBINE, which adds what ENG.SAVE kept. -/
theorem blockRunComputesCompress : Obligations.BlockRunComputesCompress := by
  intro s herr hidle hfull hq q
  obtain ⟨u, hsteps, ⟨A, B, C, D, hu⟩, hwindow⟩ := run_stepsDone (s := s.saved) rfl rfl hq herr rfl le_rfl
  have hcombine : step u = exec .engCombine { u with rsp := none } := by
    subst hu
    exact step_of_add hq herr rfl
  subst hu
  have hturns : (⟨A, B, C, D⟩ : DigestState) =
      (List.range 48).foldl (compressStep ((List.range 16).map s.X)) ⟨s.A, s.B, s.C, s.D⟩ := hwindow
  have hcompress : q = ⟨add32 A s.A, add32 B s.B, add32 C s.C, add32 D s.D⟩ := by
    simp only [q, compress, ← hturns]
  rw [hcompress, run_succ_of_step 49 (step_of_full hq herr hidle hfull), run_add_of_run 48 1 hsteps]
  exact run_succ_of_step 0 hcombine

end Sys2Proof.Machine

/-! SER.LATCH: what selects it, what it stores and how the core is ready after it (43_digest_serializer.md R200). -/

namespace Sys2Proof.Machine

/-- SER.LATCH is the last line of 30_encoding.md R85; no six-bit step index has a code as high as 0xC0. -/
theorem nextUop_eq_serLatch_iff {s : State} : nextUop s = some 0xC0 ↔
    s.err = false ∧ s.padPhase = .done ∧ s.digValid = false ∧ s.engPhase = .idle ∧ s.fill ≠ 64 := by
  refine ⟨fun h => ?_, fun ⟨herr, hdone, hvalid, hidle, hfill⟩ => nextUop_of_done herr hidle hfill hdone hvalid⟩
  obtain ⟨herr, ⟨-, hcode⟩ | ⟨-, hcode⟩ | ⟨-, -, hcode⟩ | ⟨hidle, hfill, hpad⟩⟩ := nextUop_some_cases h
  · have hnat : 0xC0 = 0x80 + s.t.toNat := (congrArg BitVec.toNat hcode).trans (toNat_stepCode s.t)
    have ht : s.t.toNat < 64 := s.t.isLt
    omega
  · exact absurd hcode (by decide)
  · exact absurd hcode (by decide)
  · obtain ⟨hdone, hvalid⟩ : s.padPhase = .done ∧ s.digValid = false := by simpa using hpad
    exact ⟨herr, hdone, hvalid, hidle, hfill⟩

/-- With a valid digest, the engine idle and room in the buffer, nothing is left to perform. -/
theorem State.ready_of_digest {s : State} (herr : s.err = false) (hdone : s.padPhase = .done)
    (hvalid : s.digValid = true) (hidle : s.engPhase = .idle) (hfill : s.fill ≠ 64) :
    s.busy = false ∧ s.cmdReady = true := by
  have hnone := (nextUop_of_idle_none_iff herr hidle hfill).2 (.inr ⟨hdone, hvalid⟩)
  exact ⟨congrArg Option.isSome hnone, State.cmdReady_iff.2 ⟨hnone, herr⟩⟩

/-- Settles O33: each byte of `DG` is the one of the serialisation at its address. -/
theorem serLatchStoresTheDigest : Obligations.SerLatchStoresTheDigest := by
  refine ⟨rfl, fun _ => nextUop_eq_serLatch_iff, fun s hwf => ?_, fun s u herr hdone hidle hfill hexec => ?_⟩
  · have hexec := (Effect.serLatch (s := s)).exec_eq
    have hread := Memory.read_latch hwf s.A s.B s.C s.D
    have hlatch := Memory.latch_wf hwf s.A s.B s.C s.D
    generalize s.DG.writeBytes 0 (ser s.A s.B s.C s.D) = dg at hexec hread hlatch
    refine ⟨_, hexec, rfl, hlatch, fun j hj => ?_, fun a ha => (hread a).trans (if_neg ha.not_gt)⟩
    have hbyte : ∀ k < 16, dg.read k = (ser s.A s.B s.C s.D).getD k 0 := fun k hk => (hread k).trans (if_pos hk)
    rw [hbyte j (by omega), hbyte (4 + j) (by omega), hbyte (8 + j) (by omega), hbyte (12 + j) (by omega)]
    exact ser_getD s.A s.B s.C s.D hj
  · obtain rfl := Host.Outcome.next.inj hexec
    exact ⟨rfl, State.ready_of_digest herr hdone rfl hidle hfill⟩

end Sys2Proof.Machine

/-! The hexadecimal rendering (43_digest_serializer.md R204, R205). -/

namespace Sys2Proof.Machine

section Nibble

variable {nib : BitVec 4}

/-- A nibble up to 9 is shown as a decimal digit in both cases. -/
theorem hexCode_of_le (h : nib ≤ 9) (u : Bool) : hexCode nib u = 0x30 + nib.setWidth 8 := if_pos h

/-- A nibble above 9 is shown as a letter, counted from `a` in lower case. -/
theorem hexCode_lower (h : ¬nib ≤ 9) : hexCode nib false = 0x61 + (nib.setWidth 8 - 10) := if_neg h

/-- A nibble above 9 is shown as a letter, counted from `A` in upper case. -/
theorem hexCode_upper (h : ¬nib ≤ 9) : hexCode nib true = 0x41 + (nib.setWidth 8 - 10) := if_neg h

theorem hexCode_digit_bounds (h : nib ≤ 9) (u : Bool) : 0x30 ≤ hexCode nib u ∧ hexCode nib u ≤ 0x39 := by
  rw [hexCode_of_le h]
  constructor <;> bv_omega

theorem hexCode_lower_bounds (h : ¬nib ≤ 9) : 0x61 ≤ hexCode nib false ∧ hexCode nib false ≤ 0x66 := by
  rw [hexCode_lower h]
  constructor <;> bv_omega

theorem hexCode_upper_bounds (h : ¬nib ≤ 9) : 0x41 ≤ hexCode nib true ∧ hexCode nib true ≤ 0x46 := by
  rw [hexCode_upper h]
  constructor <;> bv_omega

/-- The two letters of a nibble are as far apart as the two alphabets in ASCII. -/
theorem hexCode_upper_eq_lower_sub (h : ¬nib ≤ 9) : hexCode nib true = hexCode nib false - 0x20 := by
  rw [hexCode_upper h, hexCode_lower h]
  bv_omega

end Nibble

/-- Every code is that of a digit or of a letter in the case asked for. -/
theorem hexCode_bounds (nib : BitVec 4) (u : Bool) :
    (0x30 ≤ hexCode nib u ∧ hexCode nib u ≤ 0x39) ∨
    (u = false ∧ 0x61 ≤ hexCode nib u ∧ hexCode nib u ≤ 0x66) ∨
    (u = true ∧ 0x41 ≤ hexCode nib u ∧ hexCode nib u ≤ 0x46) := by
  by_cases h : nib ≤ 9
  · exact .inl (hexCode_digit_bounds h u)
  · cases u with
    | false => exact .inr (.inl ⟨rfl, hexCode_lower_bounds h⟩)
    | true => exact .inr (.inr ⟨rfl, hexCode_upper_bounds h⟩)

/-- Upper-casing the lower-case code gives the upper-case one: the codes of the digits lie below those of the letters. -/
theorem hexCode_upper_eq_upperCased (nib : BitVec 4) : hexCode nib true =
    if 0x61 ≤ hexCode nib false ∧ hexCode nib false ≤ 0x66 then hexCode nib false - 0x20 else hexCode nib false := by
  by_cases h : nib ≤ 9
  · have hdigit : ¬(0x61 ≤ hexCode nib false ∧ hexCode nib false ≤ 0x66) := by
      obtain ⟨-, hle⟩ := hexCode_digit_bounds h false
      rintro ⟨hge, -⟩
      exact absurd (BitVec.le_trans hge hle) (by decide)
    rw [if_neg hdigit, hexCode_of_le h, hexCode_of_le h]
  · rw [if_pos (hexCode_lower_bounds h), hexCode_upper_eq_lower_sub h]

/-- Settles O56: the rendering is `hexCode` of 32 nibbles. -/
theorem hexRenderingIsHexadecimal : Obligations.HexRenderingIsHexadecimal := by
  refine ⟨fun M u => ?_, fun dg i u => hexCode_bounds (hexNibble dg i) u, fun dg i => ⟨fun h => ?_, fun h => ?_⟩,
    fun M => ?_⟩
  · rw [md4hex, List.length_map, List.length_range]
  · exact hexCode_upper_eq_lower_sub (by bv_omega)
  · exact (hexCode_of_le h true).trans (hexCode_of_le h false).symm
  · rw [md4hex, md4hex, List.map_map]
    exact List.map_congr_left fun i _ => hexCode_upper_eq_upperCased _

end Sys2Proof.Machine

/-! The parallel output as the bytes of `DG` (43_digest_serializer.md R206, 10_state.md R34). -/

namespace Sys2Proof.Machine

/-- A shift by whole bytes moves the bytes of a word up by as many lanes. -/
theorem byteOf_shiftLeft {n : Nat} (x : BitVec n) (p : Nat) {j : Nat} (hj : 8 * j + 8 ≤ n) :
    byteOf (x <<< (8 * p)) j = if p ≤ j then byteOf x (j - p) else 0 := by
  refine BitVec.eq_of_getLsbD_eq fun i hi => ?_
  have hin : 8 * j + i < n := by omega
  simp only [byteOf, BitVec.getLsbD_extractLsb', BitVec.getLsbD_shiftLeft, hi, hin, decide_true, Bool.true_and]
  by_cases hp : p ≤ j
  · have hlane : 8 * j + i - 8 * p = 8 * (j - p) + i := by omega
    have hnot : ¬8 * j + i < 8 * p := by omega
    simp [hp, hlane, hnot, hi]
  · have hbelow : 8 * j + i < 8 * p := by omega
    simp [hp, hbelow]

/-- A byte taken as a wider word has itself in lane 0 and zeros above. -/
theorem byteOf_setWidth {n : Nat} (b : Byte) (j : Nat) (hj : 8 * j + 8 ≤ n) :
    byteOf (b.setWidth n) j = if j = 0 then b else 0 := by
  refine BitVec.eq_of_getLsbD_eq fun i hi => ?_
  have hin : 8 * j + i < n := by omega
  simp only [byteOf, BitVec.getLsbD_extractLsb', BitVec.getLsbD_setWidth, hi, hin, decide_true, Bool.true_and]
  by_cases h0 : j = 0
  · simp [h0]
  · simpa [h0] using b.getLsbD_of_ge _ (by omega)

/-- The bytes `f 0` to `f (n - 1)` set side by side, `f i` in lane `i`, read back lane by lane. -/
theorem byteOf_foldl_lanes (f : Nat → Byte) (n : Nat) {j : Nat} (hj : j < 16) :
    byteOf ((List.range n).foldl (fun acc i => acc ||| ((f i).setWidth 128 <<< (8 * i))) 0) j =
      if j < n then f j else 0 := by
  induction n with
  | zero => exact BitVec.extractLsb'_zero
  | succ n ih =>
    rw [List.range_succ, List.foldl_append, List.foldl_cons, List.foldl_nil, byteOf_or, ih,
      byteOf_shiftLeft _ _ (by omega), byteOf_setWidth _ _ (by omega)]
    obtain h | rfl | h := lt_trichotomy j n
    · simp [h, h.not_ge, h.trans n.lt_succ_self]
    · simp
    · simp [h.not_gt, h.le, Nat.sub_ne_zero_of_lt h, h.not_ge]

/-- Settles O57: the output is the bytes of `DG` side by side, and while no digest is valid `DG` reads as after
reset (I9). -/
theorem parallelOutputCarriesTheDigest : Obligations.ParallelOutputCarriesTheDigest := by
  refine ⟨fun s i hi => (byteOf_foldl_lanes s.DG.read 16 hi).trans (if_pos hi), fun s hI hvalid => ?_⟩
  calc s.digest = State.reset.digest := State.digest_congr (hI.i9 hvalid)
    _ = 0 := by decide

end Sys2Proof.Machine

/-! A slot of a ready core: nothing at the port, or a word that is decoded before it is performed (44_host_commands.md R221,
R225). -/

namespace Sys2Proof.Machine

/-- Settles O44: with no word and no reset at the port the slot passes. -/
theorem idleReadyCoreWaits : Obligations.IdleReadyCoreWaits := by
  intro s hready
  constructor
  · intro hhost
    rw [step_of_not_presented (by simp [hhost]) hready (by rw [hhost]; rfl), hhost]
    rfl
  · intro rest hhost
    rw [step_of_not_presented (by simp [hhost]) hready (by rw [hhost]; rfl), hhost]
    rfl

/-- Only the two reads return a byte. -/
theorem Effect.rsp_frame {s u : State} {i : Instr} (h : Effect s i u) :
    ((∃ n, i = .rdd n) ∨ ∃ n c, i = .rdh n c) ∨ u.rsp = s.rsp ∨ u.rsp = none := by
  cases h with
  | rdd | rdh => exact .inl (by simp)
  | dataClosed | finalClosed | rddInvalid | rdhInvalid => exact .inr (.inr rfl)
  | step n hi => obtain ⟨A, B, C, D, hstep⟩ := s.stepByTables_frame n; exact .inr (.inl (by rw [hstep]))
  | _ => exact .inr (.inl rfl)

/-- Settles O10: a response is there only by a read, because the slot begins without one and a fault gives none. -/
theorem acceptDecodesThenPerforms : Obligations.AcceptDecodesThenPerforms := by
  intro s w hready hp
  refine ⟨fun i => step_of_accepted hready hp, fun e => step_of_reserved hready hp, fun t ht hrsp => ?_⟩
  cases hd : decodeCmd w with
  | error e =>
    obtain rfl := Host.Outcome.next.inj ((step_of_reserved hready hp hd).symm.trans ht)
    exact absurd rfl hrsp
  | ok i =>
    have heff : Effect (s.opened s.host.tail) i t := effect_of_exec ((step_of_accepted hready hp hd).symm.trans ht)
    obtain (⟨n, rfl⟩ | ⟨n, c, rfl⟩) | hnone | hnone := heff.rsp_frame
    · exact ⟨n, .inl rfl⟩
    · exact ⟨n, .inr ⟨c, rfl⟩⟩
    · exact absurd hnone hrsp
    · exact absurd hnone hrsp

end Sys2Proof.Machine

/-! The words of the commands as the numbers of 30_encoding.md R81. -/

namespace Sys2Proof

theorem cmdWord_eq_or (op : BitVec 2) (a : BitVec 8) : cmdWord op a = op.setWidth 10 <<< 8 ||| a.setWidth 10 := by
  rw [cmdWord, BitVec.append_def, BitVec.shiftLeftZeroExtend_eq, BitVec.setWidth'_eq]

theorem encode_data (b : Byte) : encode (.data b) = .cmd (0x100 ||| b.setWidth 10) :=
  congrArg Code.cmd (cmdWord_eq_or 1 b)

theorem encode_rdd_eq_or {i : Nat} (hi : i < 16) : encode (.rdd i) = .cmd (0x300 ||| BitVec.ofNat 10 i) := by
  revert i
  decide

theorem encode_rdh_eq_or {i : Nat} (hi : i < 32) (u : Bool) :
    encode (.rdh i u) = .cmd (0x340 ||| (if u then 0x020 else 0) ||| BitVec.ofNat 10 i) := by
  revert i u
  decide

end Sys2Proof

/-! INIT, DATA and FINAL: effect and flags (44_host_commands.md R216 to R218). -/

namespace Sys2Proof.Machine

/-- After an accepted INIT the core is in the ready state with an open, empty message. -/
theorem State.cmdReady_restart {s : State} (herr : s.err = false) : s.restart.cmdReady = true :=
  State.cmdReady_iff_phases.2 ⟨herr, rfl, (by decide : (0 : BitVec 7) ≠ 64), .inl rfl⟩

theorem State.restart_of_not_err {s : State} (herr : s.err = false) :
    s.restart = { State.reset with errCode := s.errCode, host := s.host, rsp := s.rsp } := by
  rw [State.restart, herr]
  rfl

theorem State.busy_of_cmdReady {s : State} (h : s.cmdReady = true) : s.busy = false :=
  congrArg Option.isSome (State.cmdReady_iff.1 h).1

/-- A ready core that is sent INIT is as after a reset, with the fault code it had. -/
theorem step_of_init {s : State} {rest : List HostAct} (hready : s.cmdReady = true)
    (hhost : s.host = .hold 0x000 :: rest) :
    step s = .next { State.reset with errCode := s.errCode, host := rest } := by
  obtain ⟨-, herr⟩ := State.cmdReady_iff.1 hready
  have hp : presented s.host = some 0x000 := by rw [hhost]; rfl
  have hfresh := State.restart_of_not_err (s := s.opened s.host.tail) herr
  rw [step_of_accepted hready hp (i := .init) rfl, Effect.init.exec_eq, hfresh, hhost]
  rfl

/-- Settles O18. The flags: a ready core is not faulted, so INIT leaves it ready. -/
theorem initRestartsTheMessage : Obligations.InitRestartsTheMessage := by
  refine ⟨rfl, fun _ => rfl, fun s u hready hexec => ?_, fun _ _ => step_of_init⟩
  obtain rfl := Host.Outcome.next.inj ((Effect.init (s := s)).exec_eq.symm.trans hexec)
  obtain ⟨-, herr⟩ := State.cmdReady_iff.1 hready
  have hready' := State.cmdReady_restart herr
  exact ⟨rfl, State.busy_of_cmdReady hready', hready', State.restart_of_not_err herr⟩

theorem fill_succ_eq_full_iff (f : BitVec 7) : f + 1 = 64 ↔ f = 63 := by
  bv_omega

/-- Settles O19. The flags: with the message still open, the core has work exactly when the byte has filled the Block. -/
theorem dataAppendsOneByte : Obligations.DataAppendsOneByte := by
  refine ⟨encode_data, fun s b hopen hroom => (Effect.data b hopen hroom).exec_eq, ?_,
    fun s b hclosed => (Effect.dataClosed b hclosed).exec_eq⟩
  intro s u b hopen hroom hidle herr hexec
  obtain rfl := Host.Outcome.next.inj ((Effect.data b hopen hroom).exec_eq.symm.trans hexec)
  by_cases hlast : s.fill = 63
  · have hsave : nextUop (s.padAbsorb b) = some 0xBF :=
      nextUop_of_full herr hidle ((fill_succ_eq_full_iff s.fill).2 hlast)
    simp [State.cmdReady, State.busy, hsave, hlast]
  · have hready : (s.padAbsorb b).cmdReady = true :=
      State.cmdReady_iff_phases.2 ⟨herr, hidle, mt (fill_succ_eq_full_iff s.fill).1 hlast, .inl hopen⟩
    exact ⟨iff_of_false (by simp [State.busy_of_cmdReady hready]) hlast, iff_of_true hready hlast, (absurd · hlast)⟩

/-- Settles O20. The flags: a ready core has an idle engine and room, so the marker is next. -/
theorem finalStartsThePadding : Obligations.FinalStartsThePadding := by
  refine ⟨rfl, fun s hopen => (Effect.final hopen).exec_eq, fun s u hready hopen hexec => ?_,
    fun s hclosed => (Effect.finalClosed hclosed).exec_eq⟩
  obtain rfl := Host.Outcome.next.inj ((Effect.final hopen).exec_eq.symm.trans hexec)
  obtain ⟨-, herr⟩ := State.cmdReady_iff.1 hready
  obtain ⟨hidle, hfill⟩ := State.idle_of_cmdReady hready
  have hmark : nextUop s.padFinal = some 0x00 := nextUop_of_mark herr hidle hfill rfl
  simp [State.cmdReady, State.busy, hmark]

end Sys2Proof.Machine

/-! RDD and RDH, and the character of a nibble in numbers (44_host_commands.md R219, R220, 43_digest_serializer.md R204). -/

namespace Sys2Proof.Machine

/-- Settles O21: the two effects of RDD with an index in range. -/
theorem readDigestByte : Obligations.ReadDigestByte :=
  ⟨fun _ => encode_rdd_eq_or, fun _ i hi hvalid => (Effect.rdd i hi hvalid).exec_eq,
    fun _ i hi hinvalid => (Effect.rddInvalid i hi hinvalid).exec_eq⟩

/-- The character codes of 43_digest_serializer.md R204 for a nibble given as a number. -/
def hexCodeNat (n : Nat) (u : Bool) : Nat := if n ≤ 9 then 0x30 + n else if u then 0x41 + (n - 10) else 0x61 + (n - 10)

theorem hexCode_eq_ofNat (nib : BitVec 4) (u : Bool) : hexCode nib u = BitVec.ofNat 8 (hexCodeNat nib.toNat u) := by
  revert nib u
  decide

theorem toNat_hexNibble (dg : Memory) (i : Nat) :
    (hexNibble dg i).toNat = if i % 2 = 0 then (dg.read (i / 2)).toNat / 16 else (dg.read (i / 2)).toNat % 16 := by
  have hlt := (dg.read (i / 2)).isLt
  rw [hexNibble, apply_ite BitVec.toNat, toNat_extractLsb'_eq, toNat_extractLsb'_eq]
  congr 1 <;> omega

theorem hexChar_eq_ofNat (dg : Memory) (i : Nat) (u : Bool) : hexChar dg i u =
    BitVec.ofNat 8 (hexCodeNat (if i % 2 = 0 then (dg.read (i / 2)).toNat / 16 else (dg.read (i / 2)).toNat % 16) u) := by
  rw [hexChar, hexCode_eq_ofNat, toNat_hexNibble]

/-- Settles O22: the two effects of RDH with an index in range, and the character in numbers. -/
theorem readHexCharacter : Obligations.ReadHexCharacter :=
  ⟨fun _ hi => encode_rdh_eq_or hi,
    fun s i u hi hvalid =>
      (Effect.rdh i u hi hvalid).exec_eq.trans
        (congrArg (fun b => Host.Outcome.next (s.respond b)) (hexChar_eq_ofNat s.DG i u)),
    fun _ i u hi hinvalid => (Effect.rdhInvalid i u hi hinvalid).exec_eq⟩

end Sys2Proof.Machine

/-! The Blocks of a byte sequence that grows by one byte at a time (41_block_scheduler.md R123). -/

namespace Sys2Proof.Machine

/-- The bytes after the last full Block. -/
def openBlock (P : List Byte) : List Byte := P.drop (64 * (P.length / 64))

theorem openBlock_length (P : List Byte) : (openBlock P).length = P.length % 64 := by
  rw [openBlock, List.length_drop]
  omega

/-- One more byte leaves the full Blocks as they are. -/
theorem window_append {P : List Byte} {q : Nat} (hq : q < P.length / 64) (b : Byte) :
    ((P ++ [b]).drop (64 * q)).take 64 = (P.drop (64 * q)).take 64 := by
  rw [List.drop_append_of_le_length (by omega), List.take_append_of_le_length (by rw [List.length_drop]; omega)]

section Append

variable {P : List Byte} (b : Byte)

theorem openBlock_append_of_ne (h : P.length % 64 ≠ 63) : openBlock (P ++ [b]) = openBlock P ++ [b] := by
  have hsame : (P.length + 1) / 64 = P.length / 64 := by omega
  rw [openBlock, List.length_append, List.length_singleton, hsame, List.drop_append_of_le_length (by omega), openBlock]

theorem openBlock_append_last (h : P.length % 64 = 63) : openBlock (P ++ [b]) = [] := by
  rw [← List.length_eq_zero_iff, openBlock_length, List.length_append, List.length_singleton]
  omega

theorem schedule_append_of_ne (h : P.length % 64 ≠ 63) : schedule (P ++ [b]) = schedule P := by
  have hsame : (P.length + 1) / 64 = P.length / 64 := by omega
  rw [schedule, schedule, blocks, blocks, List.length_append, List.length_singleton, hsame]
  refine congrArg _ (List.map_congr_left fun q hq => window_append (List.mem_range.1 hq) b)

/-- The byte that fills the open Block completes one more word list of the schedule. -/
theorem schedule_append_last (h : P.length % 64 = 63) :
    schedule (P ++ [b]) = schedule P ++ [decodeBlock (openBlock P ++ [b])] := by
  have hmore : (P.length + 1) / 64 = P.length / 64 + 1 := by omega
  have hlast : ((P ++ [b]).drop (64 * (P.length / 64))).take 64 = openBlock P ++ [b] := by
    rw [List.drop_append_of_le_length (by omega)]
    refine List.take_of_length_le ?_
    rw [List.length_append, List.length_singleton, List.length_drop]
    omega
  have hfull : (List.range (P.length / 64)).map (fun q => ((P ++ [b]).drop (64 * q)).take 64) = blocks P :=
    List.map_congr_left fun q hq => window_append (List.mem_range.1 hq) b
  rw [schedule, schedule, blocks, List.length_append, List.length_singleton, hmore, List.range_succ, List.map_append, hfull,
    List.map_singleton, hlast, List.map_append, List.map_singleton]

end Append

theorem getD_append_singleton (L : List Byte) (b : Byte) (a : Nat) :
    (L ++ [b]).getD a 0 = if a = L.length then b else L.getD a 0 := by
  obtain h | rfl | h := lt_trichotomy a L.length
  · rw [if_neg h.ne, List.getD_append _ _ _ _ h]
  · simp
  · rw [if_neg h.ne', List.getD_eq_default _ _ h.le, List.getD_eq_default]
    simpa using h

end Sys2Proof.Machine

/-! The core while bytes are emitted: what the block buffer and the Digest State hold of them (40_padder.md R101,
41_block_scheduler.md R121, 42_compression_engine.md R190). -/

namespace Sys2Proof.Machine

theorem run_snoc {s t u : State} {k : Nat} (h : Sys2Proof.core.run k s = .next t) (hstep : step t = .next u) :
    Sys2Proof.core.run (k + 1) s = .next u :=
  (run_add_of_run k 1 h).trans (run_succ_of_step 0 hstep)

/-- From `s₀` the bytes `P` have been emitted and their full Blocks compressed, one operation for a byte and fifty for a
Block, with `c` operations besides; the engine is idle and there is no digest yet. -/
structure Emitted (s₀ : State) (c : Nat) (P : List Byte) (s : State) : Prop where
  run : Sys2Proof.core.run (P.length + 50 * (P.length / 64) + c) s₀ = .next s
  inv : Invariants s
  err : s.err = false
  idle : s.engPhase = .idle
  digValid : s.digValid = false
  fill : s.fill.toNat = P.length % 64
  bytes : ∀ a, s.BLK.read a = (openBlock P).getD a 0
  regs : (⟨s.A, s.B, s.C, s.D⟩ : DigestState) = (schedule P).foldl compress ivState

/-- `s` after a slot that emits the byte `b`, with the host's further actions and what the operation writes besides. -/
def State.emitNext (s : State) (h : List HostAct) (b : Byte) (n : Word64) (p : PadPhase) (l : BitVec 3) : State :=
  { (s.opened h).padEmit b with bitlen := n, padPhase := p, lenIdx := l }

section EmitNext

variable (s : State) (h : List HostAct) (b : Byte) (n : Word64) (p : PadPhase) (l : BitVec 3)

@[simp] theorem State.emitNext_A : (s.emitNext h b n p l).A = s.A := rfl
@[simp] theorem State.emitNext_B : (s.emitNext h b n p l).B = s.B := rfl
@[simp] theorem State.emitNext_C : (s.emitNext h b n p l).C = s.C := rfl
@[simp] theorem State.emitNext_D : (s.emitNext h b n p l).D = s.D := rfl
@[simp] theorem State.emitNext_err : (s.emitNext h b n p l).err = s.err := rfl
@[simp] theorem State.emitNext_engPhase : (s.emitNext h b n p l).engPhase = s.engPhase := rfl
@[simp] theorem State.emitNext_digValid : (s.emitNext h b n p l).digValid = s.digValid := rfl
@[simp] theorem State.emitNext_fill : (s.emitNext h b n p l).fill = s.fill + 1 := rfl
@[simp] theorem State.emitNext_BLK : (s.emitNext h b n p l).BLK = s.BLK.write s.fill.toNat b := rfl
@[simp] theorem State.emitNext_padPhase : (s.emitNext h b n p l).padPhase = p := rfl
@[simp] theorem State.emitNext_bitlen : (s.emitNext h b n p l).bitlen = n := rfl
@[simp] theorem State.emitNext_host : (s.emitNext h b n p l).host = h := rfl

end EmitNext

namespace Emitted

variable {s₀ s : State} {c : Nat} {P : List Byte}

theorem room (he : Emitted s₀ c P s) : s.fill.toNat < 64 := by
  have := he.fill
  omega

theorem fill_ne (he : Emitted s₀ c P s) : s.fill ≠ 64 := fun hfull => by
  have := he.room
  simp [hfull] at this

/-- `pos` counts the bytes emitted, so the length field starts where their number is 56 mod 64. -/
theorem pos_succ_iff (he : Emitted s₀ c P s) : s.pos + 1 = 56 ↔ (P.length + 1) % 64 = 56 := by
  have hpos := he.inv.i1
  have hfill := he.fill
  have hsucc : (s.pos + 1).toNat = (s.pos.toNat + 1) % 64 := BitVec.toNat_add _ _
  rw [← BitVec.toNat_inj, hsucc]
  change _ = 56 ↔ _
  omega

section Emit

variable {h : List HostAct} {b : Byte} {n : Word64} {p : PadPhase} {l : BitVec 3}

theorem fill_emitNext (he : Emitted s₀ c P s) : (s.emitNext h b n p l).fill.toNat = P.length % 64 + 1 := by
  rw [← he.fill]
  exact State.schedPut_fill_toNat he.room b

theorem read_emitNext (he : Emitted s₀ c P s) (a : Nat) :
    (s.emitNext h b n p l).BLK.read a = (openBlock P ++ [b]).getD a 0 := by
  rw [State.emitNext_BLK, Memory.read_write he.inv.blk_wf, he.bytes, getD_append_singleton, openBlock_length, he.fill]

/-- A byte that leaves room in the buffer joins the open Block. -/
theorem emit_of_ne (he : Emitted s₀ c P s) (hstep : step s = .next (s.emitNext h b n p l)) (hroom : P.length % 64 ≠ 63) :
    Emitted s₀ c (P ++ [b]) (s.emitNext h b n p l) := by
  have hlength : (P ++ [b]).length = P.length + 1 := List.length_append
  constructor
  case run =>
    have hcount : P.length + 1 + 50 * ((P.length + 1) / 64) + c = P.length + 50 * (P.length / 64) + c + 1 := by omega
    rw [hlength, hcount]
    exact run_snoc he.run hstep
  case inv => exact stepKeepsTheInvariants _ _ he.inv hstep
  case err => rw [State.emitNext_err, he.err]
  case idle => rw [State.emitNext_engPhase, he.idle]
  case digValid => rw [State.emitNext_digValid, he.digValid]
  case fill =>
    rw [he.fill_emitNext, hlength]
    omega
  case bytes =>
    rw [openBlock_append_of_ne b hroom]
    exact he.read_emitNext
  case regs =>
    rw [schedule_append_of_ne b hroom, State.emitNext_A, State.emitNext_B, State.emitNext_C, State.emitNext_D, he.regs]

/-- A byte that fills the buffer is followed by the fifty operations of its Block. -/
theorem emit_last (he : Emitted s₀ c P s) (hq : HostQuiet (s.emitNext h b n p l))
    (hstep : step s = .next (s.emitNext h b n p l)) (hlast : P.length % 64 = 63) :
    ∃ u, Emitted s₀ c (P ++ [b]) u ∧ u.padPhase = p ∧ u.bitlen = n ∧ u.host = h := by
  obtain ⟨v, hv⟩ : ∃ v, v = s.emitNext h b n p l := ⟨_, rfl⟩
  have hwords : (List.range 16).map v.X = decodeBlock (openBlock P ++ [b]) :=
    List.map_congr_left fun k _ => by simp only [State.X, hv, he.read_emitNext]
  have hregs : (⟨v.A, v.B, v.C, v.D⟩ : DigestState) = (schedule P).foldl compress ivState := by
    rw [hv, State.emitNext_A, State.emitNext_B, State.emitNext_C, State.emitNext_D, he.regs]
  have hfull : v.fill = 64 := BitVec.eq_of_toNat_eq (by rw [hv, he.fill_emitNext, hlast]; rfl)
  obtain ⟨herr, hidle, hvalid, hphase, hbitlen, hhost⟩ : v.err = false ∧ v.engPhase = .idle ∧ v.digValid = false ∧
      v.padPhase = p ∧ v.bitlen = n ∧ v.host = h := by
    simp [hv, he.err, he.idle, he.digValid]
  rw [← hv] at hstep hq
  have hblock := blockRunComputesCompress v herr hidle hfull hq
  rw [hwords, hregs] at hblock
  have hlength : (P ++ [b]).length = P.length + 1 := List.length_append
  have hcount : P.length + 1 + 50 * ((P.length + 1) / 64) + c = P.length + 50 * (P.length / 64) + c + 1 + 50 := by omega
  have hinv := run_keeps stepKeepsTheInvariants (stepKeepsTheInvariants _ _ he.inv hstep) hblock
  refine ⟨_, ⟨?run, hinv, herr, rfl, hvalid, ?fill, ?bytes, ?regs⟩, hphase, hbitlen, hhost⟩
  case run =>
    rw [hlength, hcount, run_add_of_run _ 50 (run_snoc he.run hstep)]
    exact hblock
  case fill =>
    rw [hlength]
    change 0 = _
    omega
  case bytes =>
    rw [openBlock_append_last b hlast]
    exact fun _ => rfl
  case regs => rw [schedule_append_last b hlast, List.foldl_append, List.foldl_cons, List.foldl_nil]

/-- A step that emits one more byte, and the operations of the Block where that byte fills the buffer. -/
theorem emit (he : Emitted s₀ c P s) (hq : HostQuiet (s.emitNext h b n p l))
    (hstep : step s = .next (s.emitNext h b n p l)) :
    ∃ u, Emitted s₀ c (P ++ [b]) u ∧ u.padPhase = p ∧ u.bitlen = n ∧ u.host = h := by
  by_cases hlast : P.length % 64 = 63
  · exact he.emit_last hq hstep hlast
  · exact ⟨_, he.emit_of_ne hstep hlast, rfl, rfl, rfl⟩

end Emit

end Emitted

end Sys2Proof.Machine

/-! The message from reset to the last byte of its padding (44_host_commands.md R230, 40_padder.md R100). -/

namespace Sys2Proof.Machine

/-- The message is open: `P` of its bytes have been taken, and `rest` and FINAL are still to come. -/
structure Receiving (s₀ : State) (P rest : List Byte) (s : State) : Prop extends Emitted s₀ 0 P s where
  phase : s.padPhase = .msg
  bitlen : s.bitlen = BitVec.ofNat 64 (8 * P.length)
  host : s.host = hostOf (msgx rest ++ [.final])

/-- FINAL is taken: of the message `M` with its padding the bytes `P` are emitted, and the padder is in phase `p`. -/
structure Padding (s₀ : State) (M P : List Byte) (p : PadPhase) (s : State) : Prop extends Emitted s₀ 1 P s where
  phase : s.padPhase = p
  bitlen : s.bitlen = BitVec.ofNat 64 (8 * M.length)
  host : s.host = []

/-- A host that has message bytes or FINAL to send keeps a word presented. -/
theorem exists_hold_of_message (rest : List Byte) : ∃ w t, hostOf (msgx rest ++ [.final]) = .hold w :: t := by
  cases rest <;> exact ⟨_, _, rfl⟩

theorem receiving_reset (M : List Byte) :
    Receiving { State.reset with host := hostOf (msgx M ++ [.final]) } [] M
      { State.reset with host := hostOf (msgx M ++ [.final]) } :=
  { run := rfl, inv := resetStateMeetsTheInvariants _, err := rfl, idle := rfl, digValid := rfl, fill := rfl
    bytes := fun _ => rfl, regs := rfl, phase := rfl, bitlen := rfl, host := rfl }

namespace Receiving

variable {s₀ s : State} {P rest : List Byte} {b : Byte}

theorem ready (hr : Receiving s₀ P rest s) : s.cmdReady = true :=
  State.cmdReady_iff_phases.2 ⟨hr.err, hr.idle, hr.fill_ne, .inl hr.phase⟩

/-- The next byte is taken. -/
theorem data (hr : Receiving s₀ P (b :: rest) s) : ∃ u, Receiving s₀ (P ++ [b]) rest u := by
  have hhost : s.host = .hold (cmdWord 1 b) :: hostOf (msgx rest ++ [.final]) := hr.host
  have hstep : step s = .next ((s.opened (hostOf (msgx rest ++ [.final]))).padAbsorb b) := by
    have haccept := step_of_accepted hr.ready (by rw [hhost]; rfl) (decodeCmd_cmdWord_one b)
    rw [hhost] at haccept
    exact haccept.trans (Effect.data (s := s.opened _) b hr.phase hr.room).exec_eq
  obtain ⟨u, hu, hphase, hbitlen, hhost'⟩ := hr.emit (n := add64 s.bitlen 8) (.inr (exists_hold_of_message rest)) hstep
  refine ⟨u, { hu with phase := hphase.trans hr.phase, bitlen := hbitlen.trans ?_, host := hhost' }⟩
  rw [hr.bitlen, List.length_append, List.length_singleton, Nat.mul_add, BitVec.ofNat_add]
  rfl

/-- All bytes of the message are taken. -/
theorem all (hr : Receiving s₀ P rest s) : ∃ u, Receiving s₀ (P ++ rest) [] u := by
  induction rest generalizing P s with
  | nil => exact ⟨s, P.append_nil.symm ▸ hr⟩
  | cons b rest ih =>
    obtain ⟨u, hu⟩ := hr.data
    rw [List.append_cons]
    exact ih hu

/-- FINAL closes the message. -/
theorem final {M : List Byte} (hr : Receiving s₀ M [] s) : ∃ u, Padding s₀ M M .mark u := by
  have hhost : s.host = [.hold (cmdWord 2 0)] := hr.host
  have hstep : step s = .next (s.opened []).padFinal := by
    have haccept := step_of_accepted hr.ready (by rw [hhost]; rfl) (i := .final) (by decide)
    rw [hhost] at haccept
    exact haccept.trans (Effect.final (s := s.opened _) hr.phase).exec_eq
  exact ⟨_, { hr with
    run := run_snoc hr.run hstep, inv := stepKeepsTheInvariants _ _ hr.inv hstep, phase := rfl, bitlen := hr.bitlen
    host := rfl }⟩

end Receiving

/-- Where the padder goes once `n` bytes are emitted, in the first two steps of the padding (40_padder.md R102, R103). -/
def phaseAfter (n : Nat) : PadPhase := if n % 64 = 56 then .len else .zero

namespace Padding

variable {s₀ s : State} {M P : List Byte} {p : PadPhase}

/-- After FINAL the selected micro-operation is performed, and the host does nothing. -/
theorem step_eq (hp : Padding s₀ M P p s) {code : BitVec 8} {i : Instr} (hn : nextUop s = some code)
    (hd : decodeUop code = .ok i) : step s = exec i (s.opened []) := by
  have hstep := step_of_nextUop (by simp [hp.host]) hn hd fun hrun => nomatch hp.idle.symm.trans hrun
  rwa [hp.host] at hstep

/-- A micro-operation of the padder emits one byte of the padding. -/
theorem emitPadding (hp : Padding s₀ M P p s) {b : Byte} {q : PadPhase} {l : BitVec 3}
    (hstep : step s = .next ((s.opened []).padTo b q l)) : ∃ u, Padding s₀ M (P ++ [b]) q u := by
  obtain ⟨u, hu, hphase, hbitlen, hhost⟩ := hp.emit (.inl rfl) hstep
  exact ⟨u, { hu with phase := hphase, bitlen := hbitlen.trans hp.bitlen, host := hhost }⟩

theorem mark (hp : Padding s₀ M P .mark s) : ∃ u, Padding s₀ M (P ++ [0x80]) (phaseAfter (P.length + 1)) u := by
  have hstep := hp.step_eq (nextUop_of_mark hp.err hp.idle hp.fill_ne hp.phase) (i := .padMark) rfl
  rw [(Effect.padMark (s := s.opened []) hp.room).exec_eq, State.opened_pos, if_congr hp.pos_succ_iff rfl rfl] at hstep
  exact hp.emitPadding hstep

theorem zero (hp : Padding s₀ M P .zero s) : ∃ u, Padding s₀ M (P ++ [0]) (phaseAfter (P.length + 1)) u := by
  have hstep := hp.step_eq (nextUop_of_zero hp.err hp.idle hp.fill_ne hp.phase) (i := .padZero) rfl
  rw [(Effect.padZero (s := s.opened []) hp.room).exec_eq, State.opened_pos, if_congr hp.pos_succ_iff rfl rfl,
    State.opened_padPhase, hp.phase] at hstep
  exact hp.emitPadding hstep

/-- The length byte that stands at its place in the last Block (I7). -/
theorem lengthByte (hp : Padding s₀ M P .len s) :
    ∃ u, Padding s₀ M (P ++ [byteOf (BitVec.ofNat 64 (8 * M.length)) (P.length % 64 - 56)])
      (if P.length % 64 = 63 then .done else .len) u := by
  have hfill := hp.inv.i7.2 hp.phase
  rw [hp.fill] at hfill
  have hidx : s.lenIdx.toNat = P.length % 64 - 56 := by omega
  have hlast : s.lenIdx = 7 ↔ P.length % 64 = 63 := by
    rw [← BitVec.toNat_inj, hidx]
    change _ = 7 ↔ _
    omega
  have hstep := hp.step_eq (nextUop_of_len hp.err hp.idle hp.fill_ne hp.phase) (i := .padLen) rfl
  rw [(Effect.padLen (s := s.opened []) hp.room).exec_eq, State.opened_lenIdx, State.opened_padPhase,
    State.opened_bitlen, hp.phase, hp.bitlen, hidx, if_congr hlast rfl rfl] at hstep
  exact hp.emitPadding hstep

/-- The zero bytes of the padding: the length field does not start before the last of them. -/
theorem zeroBytes (hp : Padding s₀ M (M ++ [0x80]) (phaseAfter (M.length + 1)) s) {k : Nat}
    (hk : k ≤ padZeros M.length) :
    ∃ u, Padding s₀ M (M ++ [0x80] ++ zeros k) (phaseAfter (M.length + 1 + k)) u := by
  induction k with
  | zero => exact ⟨s, by simpa [zeros] using hp⟩
  | succ k ih =>
    obtain ⟨u, hu⟩ := ih (by omega)
    have hzero : phaseAfter (M.length + 1 + k) = .zero := by
      have := padZeros_spec M.length
      exact if_neg (by omega)
    rw [hzero] at hu
    have hzeros : zeros (k + 1) = zeros k ++ [0] := List.replicate_succ'
    have hlength : (M ++ [0x80] ++ zeros k).length = M.length + 1 + k := by
      rw [List.length_append, List.length_append, List.length_singleton, zeros, List.length_replicate]
    rw [hzeros, ← List.append_assoc, ← Nat.add_assoc, ← hlength]
    exact hu.zero

/-- The eight bytes of the length field. -/
theorem lengthField (hp : Padding s₀ M P .len s) (hP : P.length % 64 = 56) {j : Nat} (hj : j ≤ 8) :
    ∃ u, Padding s₀ M (P ++ (List.range j).map (byteOf (BitVec.ofNat 64 (8 * M.length))))
      (if j = 8 then .done else .len) u := by
  induction j with
  | zero => exact ⟨s, by simpa using hp⟩
  | succ j ih =>
    obtain ⟨u, hu⟩ := ih (by omega)
    rw [if_neg (by omega)] at hu
    have hnext := hu.lengthByte
    have hidx : (P.length + j) % 64 = 56 + j := by omega
    have hlast : 56 + j = 63 ↔ j + 1 = 8 := by omega
    rw [List.length_append, List.length_map, List.length_range, hidx, if_congr hlast rfl rfl,
      Nat.add_sub_cancel_left] at hnext
    rw [List.range_succ, List.map_append, ← List.append_assoc]
    exact hnext

/-- From FINAL to the last byte of the padded message. -/
theorem complete (hp : Padding s₀ M M .mark s) : ∃ u, Padding s₀ M (pad M) .done u := by
  obtain ⟨-, hmod⟩ := padZeros_spec M.length
  obtain ⟨t, ht⟩ := hp.mark
  obtain ⟨v, hv⟩ := ht.zeroBytes le_rfl
  have hlen : phaseAfter (M.length + 1 + padZeros M.length) = .len := if_pos (by omega)
  rw [hlen] at hv
  have hlength : (M ++ [0x80] ++ zeros (padZeros M.length)).length % 64 = 56 := by
    rw [List.length_append, List.length_append, List.length_singleton, zeros, List.length_replicate]
    omega
  exact hv.lengthField hlength le_rfl

end Padding

end Sys2Proof.Machine

/-! The digest of the whole message (44_host_commands.md R230). -/

namespace Sys2Proof.Machine

/-- The hexadecimal characters depend only on what `DG` reads as. -/
theorem hexChar_congr {dg dg' : Memory} {i : Nat} (h : dg.read (i / 2) = dg'.read (i / 2)) (c : Bool) :
    hexChar dg i c = hexChar dg' i c := by
  simp only [hexChar, hexNibble, h]

theorem md4hex_getD (M : List Byte) (c : Bool) {i : Nat} (hi : i < 32) :
    (md4hex M c).getD i 0 = hexChar (Memory.writeBytes [] 0 (md4 M)) i c := by
  rw [md4hex, List.getD_eq_getElem _ _ (by simpa using hi), List.getElem_map, List.getElem_range]

/-- The core has finished the message `M`. -/
structure Hashed (M : List Byte) (u : State) : Prop where
  inv : Invariants u
  ready : u.cmdReady = true
  digValid : u.digValid = true
  host : u.host = []
  bytes : ∀ i < 16, u.DG.read i = (md4 M).getD i 0
  bitlen : u.bitlen = BitVec.ofNat 64 (8 * M.length)
  regs : (⟨u.A, u.B, u.C, u.D⟩ : DigestState) = finalState M

namespace Hashed

variable {M : List Byte} {u : State}

theorem fill (hu : Hashed M u) : u.fill = 0 := by
  obtain ⟨-, hempty, -⟩ := hu.inv.i8 hu.digValid
  exact hempty

theorem blk (hu : Hashed M u) : ∀ p < 64, u.BLK.read p = 0 :=
  fun p hp => hu.inv.i10 p hp (by simp [hu.fill])

theorem rdd (hu : Hashed M u) {i : Nat} (hi : i < 16) :
    exec (.rdd i) u = .next { u with rsp := some ((md4 M).getD i 0) } := by
  rw [← hu.bytes i hi]
  exact (Effect.rdd i hi hu.digValid).exec_eq

theorem rdh (hu : Hashed M u) {i : Nat} (hi : i < 32) (c : Bool) :
    exec (.rdh i c) u = .next { u with rsp := some ((md4hex M c).getD i 0) } := by
  have hread : u.DG.read (i / 2) = (Memory.writeBytes [] 0 (md4 M)).read (i / 2) :=
    (hu.bytes _ (by omega)).trans ((Memory.read_latch (m := []) rfl _ _ _ _ _).trans (if_pos (by omega))).symm
  rw [md4hex_getD M c hi, ← hexChar_congr hread]
  exact (Effect.rdh i c hi hu.digValid).exec_eq

end Hashed

/-- SER.LATCH ends the computation. -/
theorem Padding.latch {s₀ s : State} {M : List Byte} (hp : Padding s₀ M (pad M) .done s) :
    ∃ u, Sys2Proof.core.run ((pad M).length + 50 * ((pad M).length / 64) + 2) s₀ = .next u ∧ Hashed M u := by
  have hstep := hp.step_eq (nextUop_of_done hp.err hp.idle hp.fill_ne hp.phase hp.digValid) (i := .serLatch) rfl
  rw [Effect.serLatch.exec_eq] at hstep
  have hinv := stepKeepsTheInvariants _ _ hp.inv hstep
  have hregs : (⟨s.A, s.B, s.C, s.D⟩ : DigestState) = finalState M := hp.regs
  have hread : ∀ i < 16, (s.DG.writeBytes 0 (ser s.A s.B s.C s.D)).read i = (md4 M).getD i 0 := by
    intro i hi
    rw [Memory.read_latch hp.inv.dg_wf, if_pos hi, md4, ← hregs]
  simp only [State.opened_A, State.opened_B, State.opened_C, State.opened_D, State.opened_DG] at hstep hinv
  generalize s.DG.writeBytes 0 (ser s.A s.B s.C s.D) = dg at hstep hinv hread
  obtain ⟨-, hready⟩ := State.ready_of_digest (s := { s.opened [] with DG := dg, digValid := true }) hp.err hp.phase rfl
    hp.idle hp.fill_ne
  exact ⟨_, run_snoc hp.run hstep,
    { inv := hinv, ready := hready, digValid := rfl, host := rfl, bytes := hread, bitlen := hp.bitlen, regs := hregs }⟩

/-- The operations of a message of `n` bytes: its bytes and FINAL, then those of 70_reset_and_hazards.md R290. -/
def hashOperations (n : Nat) : Nat := n + 1 + (50 * numBlocks n + padZeros n + 10)

/-- One operation for each byte of the padded message, fifty for each Block, FINAL and SER.LATCH. -/
theorem hashOperations_eq (M : List Byte) :
    hashOperations M.length = (pad M).length + 50 * ((pad M).length / 64) + 2 := by
  have hpadded := paddedLength_eq_numBlocks M.length
  rw [pad_length, hashOperations]
  omega

/-- From reset the message is taken, padded, compressed and its digest latched. -/
theorem run_hash_of_reset (M : List Byte) :
    ∃ u, Sys2Proof.core.run (hashOperations M.length)
      { State.reset with host := hostOf (msgx M ++ [.final]) } = .next u ∧ Hashed M u := by
  obtain ⟨s, hs⟩ := (receiving_reset M).all
  obtain ⟨t, ht⟩ := hs.final
  obtain ⟨v, hv⟩ := ht.complete
  rw [hashOperations_eq]
  exact hv.latch

/-- In a good ready state INIT is as good as a reset: no fault code is recorded (I12). -/
theorem Invariants.step_of_init {s : State} {rest : List HostAct} (hI : Invariants s) (hready : s.cmdReady = true)
    (hhost : s.host = .hold 0x000 :: rest) : step s = .next { State.reset with host := rest } := by
  obtain ⟨-, herr⟩ := State.cmdReady_iff.1 hready
  rw [Machine.step_of_init hready hhost, hI.i12.1 herr]
  rfl

/-- Settles O54: the run from reset, and INIT before it. -/
theorem wholeMessageYieldsItsDigest : Obligations.WholeMessageYieldsItsDigest := by
  intro M n ops Good
  have hgood : ∀ u, Hashed M u → Good u := fun u hu =>
    ⟨hu.ready, hu.digValid, (State.cmdReady_iff.1 hu.ready).2, hu.host, hu.bytes, hu.blk, hu.fill, hu.bitlen, hu.regs,
      fun _ => hu.rdd, fun _ => hu.rdh⟩
  obtain ⟨u, hrun, hu⟩ := run_hash_of_reset M
  refine ⟨⟨u, hrun, hgood u hu⟩, fun s hI hready hhost => ⟨u, ?_, hgood u hu⟩⟩
  rw [Nat.add_comm, run_succ_of_step _ (hI.step_of_init hready hhost)]
  exact hrun

end Sys2Proof.Machine

/-! Fault entry and the faulted state (60_exceptions.md R245 to R247). -/

namespace Sys2Proof.Machine

theorem State.busy_of_err {s : State} (h : s.err = true) : s.busy = false :=
  congrArg Option.isSome (nextUop_of_err h)

theorem State.cmdReady_of_err {s : State} (h : s.err = true) : s.cmdReady = false := by
  simp [State.cmdReady, h]

/-- Settles O39: `busy` and `cmd_ready` are those of every faulted state, the other outputs are fields. -/
theorem faultEntryWritesOnlyErrAndCode : Obligations.FaultEntryWritesOnlyErrAndCode := by
  intro s c
  have hbusy : (s.raiseFault c).busy = false := State.busy_of_err rfl
  have hready : (s.raiseFault c).cmdReady = false := State.cmdReady_of_err rfl
  refine ⟨rfl, ?_⟩
  rw [State.outputs, hbusy, hready]
  rfl

/-- A step of a faulted core is a reset, or a slot that passes. -/
theorem step_next_of_err {s u : State} (herr : s.err = true) (h : step s = .next u) :
    (∃ rest, s.host = .reset :: rest ∧ u = { State.reset with host := rest }) ∨
      (s.host.head? ≠ some .reset ∧ u = s.opened s.host.tail) := by
  have hready : s.cmdReady ≠ true := by simp [State.cmdReady_of_err herr]
  obtain ⟨rest, hhost, rfl⟩ | ⟨-, c, i, hn, -⟩ | ⟨-, hready', -⟩ | ⟨-, hready', -⟩ | ⟨-, hready', -⟩ |
    ⟨-, a, rest, hhost, hreset, -, rfl⟩ := step_next_cases h
  · exact .inl ⟨rest, hhost, rfl⟩
  · exact absurd ((nextUop_of_err herr).symm.trans hn) nofun
  · exact absurd hready' hready
  · exact absurd hready' hready
  · exact absurd hready' hready
  · exact .inr ⟨by simpa [hhost] using hreset, by rw [hhost]; rfl⟩

/-- Settles O41: nothing is selected in a faulted core, so its steps are the reset and the slots that pass. -/
theorem onlyResetLeavesTheFaultedState : Obligations.OnlyResetLeavesTheFaultedState :=
  fun _ herr => ⟨⟨nextUop_of_err herr, State.busy_of_err herr, State.cmdReady_of_err herr⟩,
    fun _ => step_next_of_err herr, fun _ => step_of_reset⟩

end Sys2Proof.Machine

/-! The three causes of a fault (60_exceptions.md R240 to R243): each of them faults an accepted word, and nothing else faults. -/

namespace Sys2Proof.Machine

/-- The word `w`, accepted in the state `s`, meets the cause: the conditions in the table of 60_exceptions.md R240. -/
def MeetsCause (s : State) (w : BitVec 10) : Cause → Prop
  | .illegalCommand => ∃ e, decodeCmd w = .error e
  | .protocolError => ((∃ b, decodeCmd w = .ok (.data b)) ∨ decodeCmd w = .ok .final) ∧ s.padPhase ≠ .msg
  | .digestNotValid =>
    ((∃ i, decodeCmd w = .ok (.rdd i)) ∨ ∃ i c, decodeCmd w = .ok (.rdh i c)) ∧ s.digValid = false

theorem exists_meetsCause_iff {s : State} {w : BitVec 10} :
    (∃ c, MeetsCause s w c) ↔
      MeetsCause s w .illegalCommand ∨ MeetsCause s w .protocolError ∨ MeetsCause s w .digestNotValid := by
  constructor
  · rintro ⟨c, hc⟩
    cases c with
    | illegalCommand => exact .inl hc
    | protocolError => exact .inr (.inl hc)
    | digestNotValid => exact .inr (.inr hc)
  · rintro (hc | hc | hc) <;> exact ⟨_, hc⟩

/-- The causes belong to different words, so what the word decodes to fixes the code (60_exceptions.md R244). -/
theorem MeetsCause.code_eq {s : State} {w : BitVec 10} {c : Cause} (h : MeetsCause s w c) :
    ((∃ e, decodeCmd w = .error e) → c.code = 1) ∧
    ((∃ b, decodeCmd w = .ok (.data b)) ∨ decodeCmd w = .ok .final → c.code = 2) ∧
    ((∃ i, decodeCmd w = .ok (.rdd i)) ∨ (∃ i c, decodeCmd w = .ok (.rdh i c)) → c.code = 3) := by
  cases c with
  | illegalCommand =>
    obtain ⟨e, hd⟩ := h
    simp [hd, Cause.code]
  | protocolError => obtain ⟨⟨b, hd⟩ | hd, -⟩ := h <;> simp [hd, Cause.code]
  | digestNotValid => obtain ⟨⟨i, hd⟩ | ⟨i, u, hd⟩, -⟩ := h <;> simp [hd, Cause.code]

/-- A legal word in a ready core has the effect of its operation. -/
theorem step_of_accepted_effect {s u : State} {w : BitVec 10} {i : Instr} (hready : s.cmdReady = true)
    (hp : presented s.host = some w) (hd : decodeCmd w = .ok i) (h : Effect (s.opened s.host.tail) i u) :
    step s = .next u :=
  (step_of_accepted hready hp hd).trans h.exec_eq

/-- A ready core takes a word that meets a cause, and faults. -/
theorem step_of_meetsCause {s : State} {w : BitVec 10} {c : Cause} (hready : s.cmdReady = true)
    (hp : presented s.host = some w) (h : MeetsCause s w c) :
    step s = .next ((s.opened s.host.tail).raiseFault c) := by
  cases c with
  | illegalCommand =>
    obtain ⟨e, hd⟩ := h
    exact step_of_reserved hready hp hd
  | protocolError =>
    obtain ⟨⟨b, hd⟩ | hd, hclosed⟩ := h
    · exact step_of_accepted_effect hready hp hd (.dataClosed b hclosed)
    · exact step_of_accepted_effect hready hp hd (.finalClosed hclosed)
  | digestNotValid =>
    obtain ⟨⟨i, hd⟩ | ⟨i, u, hd⟩, hinvalid⟩ := h
    · have hi : i < 16 := of_decide_eq_true (wellFormed_of_decodeCmd hd)
      exact step_of_accepted_effect hready hp hd (.rddInvalid i hi hinvalid)
    · have hi : i < 32 := of_decide_eq_true (wellFormed_of_decodeCmd hd)
      exact step_of_accepted_effect hready hp hd (.rdhInvalid i u hi hinvalid)

/-- No micro-operation faults: those that can are commands, which have no micro-operation code. -/
theorem Effect.err_eq_of_decodeUop {s u : State} {i : Instr} {c : BitVec 8} (h : Effect s i u)
    (hd : decodeUop c = .ok i) : u.err = s.err := by
  have hcode := encode_of_decodeUop hd
  obtain (⟨b, rfl⟩ | rfl | ⟨n, rfl⟩ | ⟨n, v, rfl⟩) | ⟨herr, -⟩ := h.fault_frame
  · cases hcode
  · cases hcode
  · cases hcode
  · cases hcode
  · exact herr

/-- A command that faults does so in place of its own effect, and its word meets the cause. -/
theorem Effect.meetsCause {s u : State} {i : Instr} {w : BitVec 10} (h : Effect s i u) (hd : decodeCmd w = .ok i)
    (herr : s.err = false) (hu : u.err = true) : ∃ c, MeetsCause s w c ∧ u = s.raiseFault c := by
  cases h with
  | dataClosed b hclosed => exact ⟨.protocolError, ⟨.inl ⟨b, hd⟩, hclosed⟩, rfl⟩
  | finalClosed hclosed => exact ⟨.protocolError, ⟨.inr hd, hclosed⟩, rfl⟩
  | rddInvalid n hn hinvalid => exact ⟨.digestNotValid, ⟨.inl ⟨n, hd⟩, hinvalid⟩, rfl⟩
  | rdhInvalid n v hn hinvalid => exact ⟨.digestNotValid, ⟨.inr ⟨n, v, hd⟩, hinvalid⟩, rfl⟩
  | step n hi =>
    obtain ⟨A, B, C, D, hstep⟩ := s.stepByTables_frame n
    rw [hstep] at hu
    exact absurd (herr.symm.trans hu) Bool.false_ne_true
  | _ => exact absurd (herr.symm.trans hu) Bool.false_ne_true

/-- What a step that faults has done: the ready core took a word that meets a cause. -/
theorem meetsCause_of_step {s u : State} (herr : s.err = false) (h : step s = .next u) (hu : u.err = true) :
    s.cmdReady = true ∧ ∃ w c, presented s.host = some w ∧ MeetsCause s w c ∧
      u = (s.opened s.host.tail).raiseFault c := by
  have hkept : u.err ≠ s.err := by simp [herr, hu]
  obtain ⟨rest, -, rfl⟩ | ⟨-, c, i, -, -, hd, hexec⟩ | ⟨-, hready, w, i, hp, hd, hexec⟩ | ⟨-, hready, w, e, hp, hd, rfl⟩ |
    ⟨-, -, -, rfl⟩ | ⟨herr', -⟩ := step_next_cases h
  · cases hu
  · exact absurd ((effect_of_exec hexec).err_eq_of_decodeUop hd) hkept
  · obtain ⟨c, hc, rfl⟩ := (effect_of_exec hexec).meetsCause hd herr hu
    exact ⟨hready, w, c, hp, hc, rfl⟩
  · exact ⟨hready, w, .illegalCommand, hp, ⟨e, hd⟩, rfl⟩
  · exact absurd rfl hkept
  · exact absurd (herr.symm.trans herr') Bool.false_ne_true

/-- Settles O40: a word that meets a cause faults, and a step that faults has taken such a word. -/
theorem faultsComeOnlyFromAccept : Obligations.FaultsComeOnlyFromAccept := by
  intro s u herr h
  refine ⟨⟨fun hu => ?_, ?_⟩, fun hu w hp => ?_⟩
  · obtain ⟨hready, w, c, hp, hc, -⟩ := meetsCause_of_step herr h hu
    exact ⟨hready, w, hp, exists_meetsCause_iff.1 ⟨c, hc⟩⟩
  · rintro ⟨hready, w, hp, hcause⟩
    obtain ⟨c, hc⟩ := exists_meetsCause_iff.2 hcause
    obtain rfl := Host.Outcome.next.inj ((step_of_meetsCause hready hp hc).symm.trans h)
    rfl
  · obtain ⟨-, w', c, hp', hc, rfl⟩ := meetsCause_of_step herr h hu
    obtain rfl := Option.some.inj (hp'.symm.trans hp)
    exact ⟨rfl, hc.code_eq⟩

end Sys2Proof.Machine

/-! The work left to the sequencer: how many micro-operations it performs by itself before the core is ready, and that each of
them is one less (70_reset_and_hazards.md R285, R290). -/

namespace Sys2Proof.Machine

/-- The operations up to the end of the Block in the buffer: the steps from `t` on and ENG.COMBINE, with ENG.SAVE before them
where the Block is full but not started (42_compression_engine.md R131, R188). -/
def State.engineWork (s : State) : Nat :=
  match s.engPhase with
  | .run => 49 - s.t.toNat
  | .add => 1
  | .idle => if s.fill = 64 then 50 else 0

/-- The operations of the padding that starts at running length `p` mod 64, with its Blocks and SER.LATCH
(70_reset_and_hazards.md R290). -/
def paddingOperations (p : Nat) : Nat :=
  1 + padZeros p + 8 + 50 * (if p ≤ 55 then 1 else 2) + 1

/-- The operations that the padder's phase still asks for, the Block in the buffer not counted. The marker and a zero byte owed
at the same `pos` ask for as many. -/
def State.padderWork (s : State) : Nat :=
  match s.padPhase with
  | .msg => 0
  | .mark => paddingOperations s.pos.toNat
  | .zero => paddingOperations s.pos.toNat
  | .len => 59 - s.lenIdx.toNat
  | .done => if s.digValid then 0 else 1

/-- The number of micro-operations a core that is not faulted performs before it is ready. -/
def State.work (s : State) : Nat := s.engineWork + s.padderWork

/-- The marker or a zero byte emitted anywhere but right before the length field leaves one operation less, those of the Block it
may fill counted. -/
theorem paddingOperations_succ {p : Nat} (hp : p < 64) (h55 : p ≠ 55) :
    (if p = 63 then 50 else 0) + paddingOperations ((p + 1) % 64) + 1 = paddingOperations p := by
  unfold paddingOperations padZeros
  split_ifs <;> omega

/-- The longest padding is the one that starts right behind the place of the length field. -/
theorem paddingOperations_le (p : Nat) : paddingOperations p ≤ 173 := by
  unfold paddingOperations padZeros
  split_ifs <;> omega

section Work

variable {s u : State}

theorem State.engineWork_le (s : State) : s.engineWork ≤ 50 := by
  unfold State.engineWork
  split
  · exact (Nat.sub_le _ _).trans (by decide)
  · decide
  · split <;> decide

/-- The engine has work only while the buffer is full (I3), and then `pos` is at the start of a Block (I1). -/
theorem Invariants.engineWork_eq_zero_or_pos (hI : Invariants s) : s.engineWork = 0 ∨ s.pos.toNat = 0 := by
  by_cases hfull : s.fill = 64
  · exact .inr (hI.i1.trans (by rw [hfull]; rfl))
  · have hidle : s.engPhase = .idle := by_contra fun hbusy => hfull (hI.i3 hbusy)
    exact .inl (by simp only [State.engineWork, hidle, if_neg hfull])

/-- The bounds of 70_reset_and_hazards.md R285. -/
theorem Invariants.work_le (hI : Invariants s) : s.work ≤ if s.padPhase = .msg then 50 else 173 := by
  have hengine := s.engineWork_le
  have hpadding : s.engineWork + paddingOperations s.pos.toNat ≤ 173 := by
    obtain hnone | hstart := hI.engineWork_eq_zero_or_pos
    · rw [hnone, Nat.zero_add]
      exact paddingOperations_le _
    · have hwhole : paddingOperations 0 = 115 := rfl
      rw [hstart, hwhole]
      exact Nat.le_trans (Nat.add_le_add_right hengine 115) (by decide)
  cases hphase : s.padPhase with
  | msg => simpa [State.work, State.padderWork, hphase] using hengine
  | mark | zero => simpa [State.work, State.padderWork, hphase] using hpadding
  | len =>
    simp only [State.work, State.padderWork, hphase, reduceCtorEq, if_false]
    omega
  | done =>
    simp only [State.work, State.padderWork, hphase, reduceCtorEq, if_false]
    split <;> omega

/-- A good core that is not faulted is ready exactly when no work is left. -/
theorem Invariants.cmdReady_iff_work (hI : Invariants s) (herr : s.err = false) : s.cmdReady = true ↔ s.work = 0 := by
  have ht := hI.i4.1
  have hidx := s.lenIdx.isLt
  have hpadding : paddingOperations s.pos.toNat ≠ 0 := Nat.succ_ne_zero _
  rw [State.cmdReady_iff_phases, State.work, Nat.add_eq_zero_iff, State.engineWork, State.padderWork]
  cases hengine : s.engPhase with
  | run => simp only [reduceCtorEq, false_and, and_false, false_iff]; omega
  | add => simp
  | idle =>
    by_cases hfull : s.fill = 64
    · simp [hfull]
    · cases hpad : s.padPhase with
      | msg => simp [herr]
      | mark | zero => simp [hpadding]
      | len => simp only [reduceCtorEq, false_and, and_false, or_self, false_iff]; omega
      | done => simp [herr]

/-- A byte emitted by an idle core gives the engine work exactly when it fills the buffer. -/
theorem State.engineWork_padTo (hidle : s.engPhase = .idle) (b : Byte) (p : PadPhase) (l : BitVec 3) :
    (s.padTo b p l).engineWork = if s.fill.toNat = 63 then 50 else 0 := by
  have hengine : (s.padTo b p l).engineWork = if s.fill + 1 = 64 then 50 else 0 := by
    have hkept : (s.padTo b p l).engPhase = .idle := hidle
    rw [State.engineWork, hkept]
    rfl
  rw [hengine, if_congr ((fill_succ_eq_full_iff s.fill).trans BitVec.toNat_inj.symm) rfl rfl]
  rfl

theorem State.engineWork_of_idle (hidle : s.engPhase = .idle) (hfill : s.fill ≠ 64) : s.engineWork = 0 := by
  rw [State.engineWork, hidle]
  exact if_neg hfill

/-- The marker or a zero byte: the next phase asks for one operation less. -/
theorem Invariants.work_padToZeros (hI : Invariants s) (hidle : s.engPhase = .idle) (hfill : s.fill ≠ 64)
    (hphase : s.padPhase = .mark ∨ s.padPhase = .zero) (b : Byte) :
    (s.padTo b (if s.pos + 1 = 56 then .len else .zero) s.lenIdx).work + 1 = s.work := by
  have hroom := hI.fill_lt hfill
  have hpos : s.pos.toNat = s.fill.toNat := hI.i1.trans (Nat.mod_eq_of_lt hroom)
  have hidx : s.lenIdx.toNat = 0 := congrArg BitVec.toNat (hI.i7.1 (by obtain h | h := hphase <;> simp [h]))
  have hbefore : s.work = paddingOperations s.pos.toNat := by
    rw [State.work, State.engineWork_of_idle hidle hfill, Nat.zero_add, State.padderWork]
    obtain h | h := hphase <;> rw [h]
  have hnext : (s.pos + 1).toNat = (s.pos.toNat + 1) % 64 := BitVec.toNat_add _ _
  rw [hbefore, State.work, State.engineWork_padTo hidle, ← hpos]
  by_cases hlast : s.pos + 1 = 56
  · have h55 : s.pos.toNat = 55 := by
      have : (s.pos + 1).toNat = 56 := congrArg BitVec.toNat hlast
      omega
    have hlength : (s.padTo b .len s.lenIdx).padderWork = 59 - s.lenIdx.toNat := rfl
    rw [if_pos hlast, hlength, hidx, h55]
    rfl
  · have h55 : s.pos.toNat ≠ 55 := fun h => hlast (BitVec.eq_of_toNat_eq (by rw [hnext, h]; rfl))
    have hzeros : (s.padTo b .zero s.lenIdx).padderWork = paddingOperations (s.pos + 1).toNat := rfl
    rw [if_neg hlast, hzeros, hnext]
    exact paddingOperations_succ s.pos.isLt h55

/-- A length byte; the last one fills the last Block (I7). -/
theorem Invariants.work_padToLength (hI : Invariants s) (hidle : s.engPhase = .idle) (hfill : s.fill ≠ 64)
    (hphase : s.padPhase = .len) (b : Byte) :
    (s.padTo b (if s.lenIdx = 7 then .done else s.padPhase) (if s.lenIdx = 7 then 0 else s.lenIdx + 1)).work + 1 =
      s.work := by
  have hlevel := hI.i7.2 hphase
  have hvalid := hI.digValid_of_padPhase (by simp [hphase])
  have hbefore : s.work = 59 - s.lenIdx.toNat := by
    rw [State.work, State.engineWork_of_idle hidle hfill, Nat.zero_add, State.padderWork, hphase]
  rw [hbefore, State.work, State.engineWork_padTo hidle, hlevel, hphase]
  by_cases hlast : s.lenIdx = 7
  · have hlatch : (s.padTo b .done 0).padderWork = if s.digValid then 0 else 1 := rfl
    rw [if_pos hlast, if_pos hlast, hlatch, hvalid, hlast]
    rfl
  · have hmore : (s.padTo b .len (s.lenIdx + 1)).padderWork = 59 - (s.lenIdx + 1).toNat := rfl
    have hlt : s.lenIdx.toNat ≠ 7 := fun h => hlast (BitVec.eq_of_toNat_eq h)
    have hidx := s.lenIdx.isLt
    have hnext : (s.lenIdx + 1).toNat = (s.lenIdx.toNat + 1) % 8 := BitVec.toNat_add _ _
    rw [if_neg hlast, if_neg hlast, hmore, hnext, if_neg (by omega)]
    omega

/-- An operation of the engine leaves the padder's work. -/
theorem State.work_of_engine (hengine : u.engineWork + 1 = s.engineWork) (hpadder : u.padderWork = s.padderWork) :
    u.work + 1 = s.work := by
  rw [State.work, State.work, hpadder, ← hengine, Nat.add_right_comm]

/-- A step of a running engine. -/
theorem Invariants.work_stepByTables (hI : Invariants s) (hrun : s.engPhase = .run) :
    (s.stepByTables s.t).work + 1 = s.work := by
  obtain ⟨A, B, C, D, hstep⟩ := s.stepByTables_frame s.t
  rw [hstep]
  refine State.work_of_engine ?_ rfl
  by_cases hlast : s.t = 47
  · simp [State.engineWork, hrun, hlast]
  · have ht := hI.i4.1
    have hnext : (s.t + 1).toNat = (s.t.toNat + 1) % 64 := BitVec.toNat_add _ _
    simp only [State.engineWork, hrun, if_neg hlast, hnext]
    omega

/-- Every selected micro-operation is one less to do, line by line of 30_encoding.md R85. -/
theorem Invariants.work_of_selected {c : BitVec 8} {i : Instr} (hI : Invariants s) (hn : nextUop s = some c)
    (hd : decodeUop c = .ok i) (h : Effect s i u) : u.work + 1 = s.work := by
  obtain ⟨-, ⟨hrun, rfl⟩ | ⟨hadd, rfl⟩ | ⟨hidle, hfull, rfl⟩ | ⟨hidle, hfill, hpad⟩⟩ := nextUop_some_cases hn
  · have hexec := exec_of_stepIndex (stepIndex_of_decodeUop_stepCode hI.t_lt hd) s
    obtain rfl := Host.Outcome.next.inj (hexec.symm.trans h.exec_eq)
    exact hI.work_stepByTables hrun
  · cases hd
    obtain rfl := Host.Outcome.next.inj (Effect.engCombine.exec_eq.symm.trans h.exec_eq)
    exact State.work_of_engine (by simp [State.engineWork, hadd]) rfl
  · cases hd
    obtain rfl := Host.Outcome.next.inj (Effect.engSave.exec_eq.symm.trans h.exec_eq)
    exact State.work_of_engine (by simp [State.engineWork, hidle, hfull]) rfl
  · have hroom := hI.fill_lt hfill
    obtain ⟨hphase, rfl⟩ | ⟨hphase, rfl⟩ | ⟨hphase, rfl⟩ | ⟨hphase, hvalid, rfl⟩ := hpad
    · cases hd
      obtain rfl := Host.Outcome.next.inj ((Effect.padMark hroom).exec_eq.symm.trans h.exec_eq)
      exact hI.work_padToZeros hidle hfill (.inl hphase) _
    · cases hd
      obtain rfl := Host.Outcome.next.inj ((Effect.padZero hroom).exec_eq.symm.trans h.exec_eq)
      rw [hphase]
      exact hI.work_padToZeros hidle hfill (.inr hphase) _
    · cases hd
      obtain rfl := Host.Outcome.next.inj ((Effect.padLen hroom).exec_eq.symm.trans h.exec_eq)
      exact hI.work_padToLength hidle hfill hphase _
    · cases hd
      obtain rfl := Host.Outcome.next.inj (Effect.serLatch.exec_eq.symm.trans h.exec_eq)
      simp [State.work, State.engineWork, State.padderWork, hidle, hphase, hvalid]

@[simp] theorem State.padTo_padPhase (s : State) (b : Byte) (p : PadPhase) (l : BitVec 3) :
    (s.padTo b p l).padPhase = p := rfl

/-- No micro-operation opens a message: INIT does, and it is a command. -/
theorem Effect.padPhase_ne_msg {c : BitVec 8} {i : Instr} (h : Effect s i u) (hd : decodeUop c = .ok i)
    (hclosed : s.padPhase ≠ .msg) : u.padPhase ≠ .msg := by
  cases h with
  | init => cases encode_of_decodeUop hd
  | final hopen => exact absurd hopen hclosed
  | padMark | padZero | padLen =>
    rw [State.padTo_padPhase]
    split <;> simp [hclosed]
  | step n hi =>
    obtain ⟨A, B, C, D, hstep⟩ := s.stepByTables_frame n
    rwa [hstep]
  | _ => exact hclosed

end Work

/-- `u` is where a run of `k` micro-operations leads from `s`: each of them is one less to do, the host's actions are as they
were, no fault is taken and no message opened. -/
structure OperationsDone (s : State) (k : Nat) (u : State) : Prop where
  run : Sys2Proof.core.run k s = .next u
  inv : Invariants u
  err : u.err = false
  host : u.host = s.host
  work : u.work + k = s.work
  closed : s.padPhase ≠ .msg → u.padPhase ≠ .msg

namespace OperationsDone

variable {s u : State} {k : Nat}

theorem start (hI : Invariants s) (herr : s.err = false) : OperationsDone s 0 s :=
  { run := rfl, inv := hI, err := herr, host := rfl, work := rfl, closed := id }

/-- While fewer operations are done than there are, the core is busy. -/
theorem busy (h : OperationsDone s k u) (hk : k < s.work) : u.busy = true := by
  have hleft : u.work ≠ 0 := by have := h.work; omega
  have hready := mt (h.inv.cmdReady_iff_work h.err).1 hleft
  simpa [State.cmdReady, h.err] using hready

/-- When all are done, the core is ready. -/
theorem ready (h : OperationsDone s s.work u) : u.cmdReady = true :=
  (h.inv.cmdReady_iff_work h.err).2 (by have := h.work; omega)

/-- A host that leaves the sequencer alone lets a busy core perform the next operation. -/
theorem next (h : OperationsDone s k u) (hq : HostQuiet s) (hk : k < s.work) : ∃ v, OperationsDone s (k + 1) v := by
  have hq' : HostQuiet u := by rwa [HostQuiet, h.host]
  obtain ⟨v, hv⟩ : ∃ v, step u = .next v := by
    obtain ⟨c, hn⟩ := Option.isSome_iff_exists.1 (h.busy hk)
    exact h.inv.step_next_of_nextUop hq'.head_ne_reset hn
  obtain ⟨c, i, hn, -, hd, heff⟩ := step_next_of_busy (h.busy hk) hq'.head_ne_reset hv
  have hwork : v.work + 1 = u.work := (h.inv.opened _).work_of_selected ((nextUop_opened _ _).trans hn) hd heff
  refine ⟨v, run_snoc h.run hv, stepKeepsTheInvariants _ _ h.inv hv, ?err, ?host, ?work, ?closed⟩
  case err => exact (heff.err_eq_of_decodeUop hd).trans h.err
  case host => exact heff.host_eq.trans (hq'.untransferred_eq.trans h.host)
  case work => have := h.work; omega
  case closed => exact fun hs => heff.padPhase_ne_msg hd (h.closed hs)

end OperationsDone

/-- From a good state, a core left alone gets through all its work. -/
theorem Invariants.operationsDone {s : State} (hI : Invariants s) (hq : HostQuiet s) (herr : s.err = false) {k : Nat}
    (hk : k ≤ s.work) : ∃ u, OperationsDone s k u := by
  induction k with
  | zero => exact ⟨s, .start hI herr⟩
  | succ k ih =>
    obtain ⟨u, hu⟩ := ih (by omega)
    exact hu.next hq hk

theorem State.err_of_busy {s : State} (h : s.busy = true) : s.err = false :=
  eq_false_of_ne_true fun herr => Bool.false_ne_true ((State.busy_of_err herr).symm.trans h)

/-- Settles O52: a busy core is ready when its work is done, and the work is within the bound. -/
theorem busyEndsWithinTheBound : Obligations.BusyEndsWithinTheBound := by
  intro s hI hq hbusy
  obtain ⟨u, hu⟩ := hI.operationsDone hq (State.err_of_busy hbusy) le_rfl
  exact ⟨s.work, u, hI.work_le, hu.run, State.busy_of_cmdReady hu.ready, hu.ready, hu.host⟩

end Sys2Proof.Machine

/-! The operations after FINAL (70_reset_and_hazards.md R290). -/

namespace Sys2Proof.Machine

/-- An open message takes FINAL at the first step. -/
theorem step_of_final {s : State} {rest : List HostAct} (hready : s.cmdReady = true) (hopen : s.padPhase = .msg)
    (hhost : s.host = sends .final :: rest) : step s = .next (s.opened rest).padFinal := by
  have haccept := step_of_accepted hready (by rw [hhost]; rfl) (i := .final) (by decide)
  rw [hhost] at haccept
  exact haccept.trans (Effect.final (s := s.opened rest) hopen).exec_eq

/-- With room in the buffer FINAL asks for the padding and nothing else. -/
theorem State.work_padFinal {s : State} (hidle : s.engPhase = .idle) (hfill : s.fill ≠ 64) (rest : List HostAct) :
    (s.opened rest).padFinal.work = paddingOperations s.pos.toNat := by
  have hengine : (s.opened rest).padFinal.engineWork = 0 := State.engineWork_of_idle hidle hfill
  rw [State.work, hengine, Nat.zero_add]
  rfl

/-- Settles O53: after FINAL the core has the operations of the padding to do, and when it is ready again its message is
closed, so it is finished. -/
theorem finalTakesTheListedOperations : Obligations.FinalTakesTheListedOperations := by
  intro s hI hopen hhost n
  have hready := hI.cmdReady_iff_open_or_finished.2 (.inl hopen)
  obtain ⟨hidle, hfill⟩ := State.idle_of_cmdReady hready
  obtain ⟨hmsg, -⟩ := hopen
  have hstep := step_of_final hready hmsg hhost
  have hwork : (s.opened []).padFinal.work = n := State.work_padFinal hidle hfill []
  have hrun : ∀ k ≤ n, ∃ u, Sys2Proof.core.run (k + 1) s = .next u ∧ OperationsDone (s.opened []).padFinal k u := by
    intro k hk
    obtain ⟨u, hu⟩ := (stepKeepsTheInvariants _ _ hI hstep).operationsDone (.inl rfl) (State.cmdReady_iff.1 hready).2
      (hwork.symm ▸ hk)
    exact ⟨u, (run_succ_of_step k hstep).trans hu.run, hu⟩
  constructor
  · intro k hpos hk
    obtain ⟨j, rfl⟩ := Nat.exists_eq_succ_of_ne_zero (Nat.ne_of_gt hpos)
    obtain ⟨u, hu, hdone⟩ := hrun j (Nat.le_of_succ_le hk)
    exact ⟨u, hu, hdone.busy (hwork.symm ▸ hk)⟩
  · obtain ⟨u, hu, hdone⟩ := hrun n le_rfl
    rw [← hwork] at hdone
    obtain ⟨hmsg', -⟩ | ⟨-, hvalid, -⟩ := hdone.inv.cmdReady_iff_open_or_finished.1 hdone.ready
    · exact absurd hmsg' (hdone.closed nofun)
    · exact ⟨u, hu, State.busy_of_cmdReady hdone.ready, hvalid, hdone.ready, hdone.host⟩

end Sys2Proof.Machine

/-! What a reset and the end of a message leave behind (70_reset_and_hazards.md R270, R282). -/

namespace Sys2Proof.Machine

/-- In a good core that is not busy the engine is idle and the buffer is not full: a faulted one would be ready but for the
fault (I14). -/
theorem Invariants.idle_of_not_busy {s : State} (hI : Invariants s) (hbusy : s.busy = false) :
    s.engPhase = .idle ∧ s.fill ≠ 64 := by
  cases herr : s.err with
  | true =>
    obtain ⟨-, hnone⟩ := hI.i14 herr
    exact State.idle_of_cmdReady (s := { s with err := false }) (State.cmdReady_iff.2 ⟨hnone, rfl⟩)
  | false => exact State.idle_of_cmdReady (by simp [State.cmdReady, hbusy, herr])

/-- Settles O55: with the padding complete and nothing to do the buffer is empty (I13), and its empty part reads zero (I10);
the other three empty it. -/
theorem noMessageByteIsRetained : Obligations.NoMessageByteIsRetained := by
  refine ⟨fun s hI hdone hbusy p hp => ?_, fun s u hexec p => ?_, fun s u rest hhost h p => ?_⟩
  · obtain ⟨-, hfill⟩ := hI.idle_of_not_busy hbusy
    have hempty : s.fill = 0 := (hI.i13.2 hdone).resolve_right hfill
    exact hI.i10 p hp (by simp [hempty])
  · obtain hcombine | hinit := hexec
    · obtain rfl := Host.Outcome.next.inj (Effect.engCombine.exec_eq.symm.trans hcombine)
      rfl
    · obtain rfl := Host.Outcome.next.inj (Effect.init.exec_eq.symm.trans hinit)
      rfl
  · obtain rfl := Host.Outcome.next.inj ((step_of_reset hhost).symm.trans h)
    rfl

theorem outputs_reset : State.reset.outputs = {
    cmdReady := true, busy := false, digValid := false, fault := false, errCode := 0
    digest := 0, rsp := none } := by
  decide

/-- Settles O42: the reset slot, the empty arrays, the outputs, and INIT, which leaves what the reset left. -/
theorem resetOverridesEverything : Obligations.ResetOverridesEverything :=
  ⟨fun _ _ => step_of_reset, fun _ => ⟨rfl, rfl⟩, outputs_reset, Effect.init.exec_eq⟩

end Sys2Proof.Machine
